-- ==== Sys2Proof/Word.lean ====
section
/-! DEFINITION. The plainest types: a byte, the bounded indexes of the part's records, and the sets the
manual treats as bit fields (12_frame_and_record_layouts.md: "bit k stands for element k"). -/

namespace Sys2Proof

/-- One byte of a frame on a port. -/
abbrev Byte := BitVec 8

/-- Edition slot, 0..63 (R1). -/
abbrev EditionId := Fin 64
/-- Ticket slot, 0..7 (R22). -/
abbrev TicketId := Fin 8
/-- Ink channel, 0..11 (R65). -/
abbrev ChannelId := Fin 12
/-- Tank slot, 0..23 (R66). -/
abbrev TankId := Fin 24
/-- Roll feed, upper 0 or lower 1 (R102). -/
abbrev RollId := Fin 2
/-- Reference set, 0..15 (R153). -/
abbrev RefsetId := Fin 16

/-- A set of ink channels. -/
abbrev ChannelSet := BitVec 12
/-- A set of notice kinds (R193). -/
abbrev NoticeSet := BitVec 18
/-- A set of reload sources, numbered in the order R172 lists them. -/
abbrev ReloadSet := BitVec 5

end Sys2Proof
end

