-- ==== Sys2Proof/Syntax.lean ====
section
/-! DEFINITION. The commands: one constructor of `Instr` for each row of spec/opcode_table.json, and the
requests of the command link as a frame spells them (`Request`). A host request carries its frame's tag and
the fields of its body as the numbers their bytes spell (12_frame_and_record_layouts.md, R197), not yet
tested; messages of the engine and the sensor carry their body's fields; line and timer events name the
line or the timer. -/

namespace Sys2Proof

/-- One end of the cutter carriage's travel: HOME, or END (R144). -/
inductive CarriageEnd where
  | homeEnd
  | farEnd
deriving DecidableEq, Repr

/-- A colour triple in hundredths: L*, a* and b* (R153). -/
structure Lab where
  l : Int
  a : Int
  b : Int
deriving DecidableEq, Repr

/-- The three drop counts a SWATH_DONE carries for one channel (R48). -/
structure DropCounts where
  small : Nat
  medium : Nat
  large : Nat
deriving DecidableEq, Repr

/-- The 19-byte parameter block of 12.1, each field as carried. -/
structure EditionParams where
  label : Nat
  size : Nat
  mediaClass : Nat
  channels : BitVec 16
  /-- 0 NONE, 1 MEASURE -/
  policy : Nat
  refset : Nat
  tmax : Nat
  tmean : Nat
  twarn : Nat
  strict : Bool
  trim : Bool
  holdThreshold : Nat
deriving DecidableEq, Repr

/-- The edition record of 12.2 less its in-flight byte, as an EDITION_RESTORE carries it (R11). -/
structure RestoreRecord where
  /-- the state byte: 0 FREE, 1 OPEN, 2 QUALIFY, 3 HELD, 4 COMPLETE, 5 CLOSED -/
  state : Nat
  label : Nat
  size : Nat
  next : Nat
  good : Nat
  spoiled : Nat
  unverified : Nat
  returnLength : Nat
  /-- the 8 places of the return list -/
  returnPlaces : Vector Nat 8
  mediaClass : Nat
  channels : BitVec 16
  pinPresent : BitVec 16
  pins : Vector Nat 12
  requalify : Bool
  strict : Bool
  trim : Bool
  locked : Bool
  measure : Bool
  refset : Nat
  tmax : Nat
  tmean : Nat
  twarn : Nat
  holdThreshold : Nat
  fails : Nat
  goodCost : Nat
  spoilCost : Nat
  goodInk : Nat
  goodMedia : Nat
deriving DecidableEq, Repr

/-- A request as one frame of the command link spells it (12.1). `unknownRequest` is a code outside the
table; `malformed` is a code of the table whose body length, or whose enumerated byte, is not one the code
admits, which R190 and R197 answer RANGE. -/
inductive Request where
  /-- UNKNOWN_REQUEST -/
  | unknownRequest (code : Nat) (bodyLength : Nat)
  /-- EDITION_CREATE -/
  | editionCreate (slot : Nat) (params : EditionParams)
  /-- EDITION_SET -/
  | editionSet (slot : Nat) (groups : BitVec 16) (params : EditionParams)
  /-- EDITION_HOLD -/
  | editionHold (slot : Nat)
  /-- EDITION_RELEASE -/
  | editionRelease (slot : Nat)
  /-- EDITION_CLOSE -/
  | editionClose (slot : Nat)
  /-- EDITION_RETIRE -/
  | editionRetire (slot : Nat)
  /-- EDITION_RESTORE -/
  | editionRestore (slot : Nat) (record : RestoreRecord)
  /-- EDITION_GET -/
  | editionGet (slot : Nat)
  /-- EDITION_FIND -/
  | editionFind (label : Nat)
  /-- PRINT_ADMIT -/
  | printAdmit (slot : Nat) (leadMargin : Nat) (image : Nat) (trailMargin : Nat)
  /-- TICKET_CANCEL -/
  | ticketCancel (id : Nat)
  /-- TICKET_GET -/
  | ticketGet (id : Nat)
  /-- TICKET_LIST -/
  | ticketList
  /-- TICKET_COLLECT -/
  | ticketCollect (id : Nat)
  /-- PAUSE_LIMIT_SET -/
  | pauseLimitSet (limit : Nat)
  /-- DROP_VOLUMES_SET -/
  | dropVolumesSet (channel : Nat) (small : Nat) (medium : Nat) (large : Nat)
  /-- FEE_SET -/
  | feeSet (cut : Nat) (check : Nat)
  /-- METER_GET -/
  | meterGet
  /-- HOUSE_GET -/
  | houseGet
  /-- HOUSE_CLEAR -/
  | houseClear
  /-- TANK_RELEASE -/
  | tankRelease (slot : Nat)
  /-- TANK_REREAD -/
  | tankReread (slot : Nat)
  /-- TANK_GET -/
  | tankGet (slot : Nat)
  /-- CHANNEL_SET -/
  | channelSet (channel : Nat) (floor : Nat) (level : Nat)
  /-- CHANNEL_GET -/
  | channelGet (channel : Nat)
  /-- TAGBUS_GET -/
  | tagbusGet
  /-- ROLL_LOAD -/
  | rollLoad (roll : Nat) (mediaClass : Nat) (width : Nat) (remaining : Nat) (price : Nat)
  /-- ROLL_SET -/
  | rollSet (roll : Nat) (groups : BitVec 8) (price : Nat) (threshold : Nat)
  /-- ROLL_SELECT -/
  | rollSelect (roll : Nat)
  /-- ROLL_UNLOAD -/
  | rollUnload (roll : Nat)
  /-- ROLL_GET -/
  | rollGet (roll : Nat)
  /-- EJECT_DELAY_SET -/
  | ejectDelaySet (delay : Nat)
  /-- EJECT -/
  | eject
  /-- PATH_GET -/
  | pathGet
  /-- ENGINE_GET -/
  | engineGet
  /-- CUTTER_CLEAR_MADE -/
  | cutterClearMade
  /-- CUTTER_CLEAR_RETRY -/
  | cutterClearRetry
  /-- BLADE_FIT -/
  | bladeFit (life : Nat)
  /-- CUTTER_GET -/
  | cutterGet
  /-- REFSET_LOAD -/
  | refsetLoad (set : Nat) (count : Nat) (targets : List Lab)
  /-- REFSET_CLEAR -/
  | refsetClear (set : Nat)
  /-- REFSET_GET -/
  | refsetGet (set : Nat)
  /-- SENSOR_RESET -/
  | sensorReset
  /-- SENSOR_GET -/
  | sensorGet
  /-- IDLE_TIMERS_SET -/
  | idleTimersSet (doze : Nat) (cap : Nat) (sources : BitVec 8)
  /-- PURGE_VOLUMES_SET -/
  | purgeVolumesSet (level : Nat) (volumes : Vector Nat 12)
  /-- PURGE -/
  | purge (channels : BitVec 16) (level : Nat)
  /-- STOP_DRAIN -/
  | stopDrain
  /-- STOP_NOW -/
  | stopNow
  /-- RESUME -/
  | resume (cleared : Bool)
  /-- RUN_GET -/
  | runGet
  /-- NOTICE_READ -/
  | noticeRead
  /-- NOTICE_CLEAR -/
  | noticeClear (kinds : BitVec 24)
  /-- NOTICE_ENABLE -/
  | noticeEnable (kinds : BitVec 24)
  /-- DATE_SET -/
  | dateSet (day : Nat)
  /-- LINK_SET -/
  | linkSet (limit : Option Nat)
  /-- a known code whose body does not suit it; its body length -/
  | malformed (bodyLength : Nat)
deriving DecidableEq, Repr

/-- The commands, one per row of spec/opcode_table.json. A host request is the arrival of its whole
frame, with `tag` the tag the host chose. -/
inductive Instr where
  /-- RESET. Power-on or the RESET line (R186). -/
  | reset
  /-- FRAME_RECEIVE. The select rise that ends a transfer (R187, R188). -/
  | frameReceive
  /-- REPLY_FRAME_PLACE. A later frame of the reply in progress finds room (R191). -/
  | replyFramePlace
  /-- UNKNOWN_REQUEST. A frame whose request code is not in the table of 12.1 (R190). -/
  | unknownRequest (tag : Nat) (code : Nat) (bodyLength : Nat)
  /-- EDITION_CREATE. R4. -/
  | editionCreate (tag : Nat) (slot : Nat) (params : EditionParams)
  /-- EDITION_SET. R5; bit k of the group set selects group k of 12.1. -/
  | editionSet (tag : Nat) (slot : Nat) (groups : BitVec 16) (params : EditionParams)
  /-- EDITION_HOLD. R7. -/
  | editionHold (tag : Nat) (slot : Nat)
  /-- EDITION_RELEASE. R8. -/
  | editionRelease (tag : Nat) (slot : Nat)
  /-- EDITION_CLOSE. R9. -/
  | editionClose (tag : Nat) (slot : Nat)
  /-- EDITION_RETIRE. R10. -/
  | editionRetire (tag : Nat) (slot : Nat)
  /-- EDITION_RESTORE. R11. -/
  | editionRestore (tag : Nat) (slot : Nat) (record : RestoreRecord)
  /-- EDITION_GET. R3. -/
  | editionGet (tag : Nat) (slot : Nat)
  /-- EDITION_FIND. R3. -/
  | editionFind (tag : Nat) (label : Nat)
  /-- PRINT_ADMIT. R24, R25. -/
  | printAdmit (tag : Nat) (slot : Nat) (leadMargin : Nat) (image : Nat) (trailMargin : Nat)
  /-- TICKET_CANCEL. R35. -/
  | ticketCancel (tag : Nat) (id : Nat)
  /-- TICKET_GET. R41. -/
  | ticketGet (tag : Nat) (id : Nat)
  /-- TICKET_LIST. R41. -/
  | ticketList (tag : Nat)
  /-- TICKET_COLLECT. R42. -/
  | ticketCollect (tag : Nat) (id : Nat)
  /-- PAUSE_LIMIT_SET. R36. -/
  | pauseLimitSet (tag : Nat) (limit : Nat)
  /-- DROP_VOLUMES_SET. R44. -/
  | dropVolumesSet (tag : Nat) (channel : Nat) (small : Nat) (medium : Nat) (large : Nat)
  /-- FEE_SET. R45. -/
  | feeSet (tag : Nat) (cut : Nat) (check : Nat)
  /-- METER_GET. R46. -/
  | meterGet (tag : Nat)
  /-- HOUSE_GET. R62. -/
  | houseGet (tag : Nat)
  /-- HOUSE_CLEAR. R63. -/
  | houseClear (tag : Nat)
  /-- TANK_RELEASE. R82. -/
  | tankRelease (tag : Nat) (slot : Nat)
  /-- TANK_REREAD. R83. -/
  | tankReread (tag : Nat) (slot : Nat)
  /-- TANK_GET. R86. -/
  | tankGet (tag : Nat) (slot : Nat)
  /-- CHANNEL_SET. R85. -/
  | channelSet (tag : Nat) (channel : Nat) (floor : Nat) (level : Nat)
  /-- CHANNEL_GET. R86. -/
  | channelGet (tag : Nat) (channel : Nat)
  /-- TAGBUS_GET. R101. -/
  | tagbusGet (tag : Nat)
  /-- ROLL_LOAD. R103. -/
  | rollLoad (tag : Nat) (roll : Nat) (mediaClass : Nat) (width : Nat) (remaining : Nat) (price : Nat)
  /-- ROLL_SET. R104; group bit 0 price, bit 1 low threshold. -/
  | rollSet (tag : Nat) (roll : Nat) (groups : BitVec 8) (price : Nat) (threshold : Nat)
  /-- ROLL_SELECT. R105. -/
  | rollSelect (tag : Nat) (roll : Nat)
  /-- ROLL_UNLOAD. R106. -/
  | rollUnload (tag : Nat) (roll : Nat)
  /-- ROLL_GET. R124. -/
  | rollGet (tag : Nat) (roll : Nat)
  /-- EJECT_DELAY_SET. R121. -/
  | ejectDelaySet (tag : Nat) (delay : Nat)
  /-- EJECT. R123. -/
  | eject (tag : Nat)
  /-- PATH_GET. R124. -/
  | pathGet (tag : Nat)
  /-- ENGINE_GET. R143. -/
  | engineGet (tag : Nat)
  /-- CUTTER_CLEAR_MADE. CUTTER_CLEAR with outcome made (R149). -/
  | cutterClearMade (tag : Nat)
  /-- CUTTER_CLEAR_RETRY. CUTTER_CLEAR with outcome retry (R149). -/
  | cutterClearRetry (tag : Nat)
  /-- BLADE_FIT. R150. -/
  | bladeFit (tag : Nat) (life : Nat)
  /-- CUTTER_GET. R152. -/
  | cutterGet (tag : Nat)
  /-- REFSET_LOAD. R154. -/
  | refsetLoad (tag : Nat) (set : Nat) (count : Nat) (targets : List Lab)
  /-- REFSET_CLEAR. R155. -/
  | refsetClear (tag : Nat) (set : Nat)
  /-- REFSET_GET. R155. -/
  | refsetGet (tag : Nat) (set : Nat)
  /-- SENSOR_RESET. R169. -/
  | sensorReset (tag : Nat)
  /-- SENSOR_GET. R170. -/
  | sensorGet (tag : Nat)
  /-- IDLE_TIMERS_SET. R174. -/
  | idleTimersSet (tag : Nat) (doze : Nat) (cap : Nat) (sources : BitVec 8)
  /-- PURGE_VOLUMES_SET. R179; level 0 LIGHT, 1 HEAVY. -/
  | purgeVolumesSet (tag : Nat) (level : Nat) (volumes : Vector Nat 12)
  /-- PURGE. R181. -/
  | purge (tag : Nat) (channels : BitVec 16) (level : Nat)
  /-- STOP_DRAIN. STOP with mode DRAIN (R182). -/
  | stopDrain (tag : Nat)
  /-- STOP_NOW. STOP with mode NOW (R183). -/
  | stopNow (tag : Nat)
  /-- RESUME. R184; the flag is path-cleared. -/
  | resume (tag : Nat) (cleared : Bool)
  /-- RUN_GET. R185. -/
  | runGet (tag : Nat)
  /-- NOTICE_READ. R194. -/
  | noticeRead (tag : Nat)
  /-- NOTICE_CLEAR. R194. -/
  | noticeClear (tag : Nat) (kinds : BitVec 24)
  /-- NOTICE_ENABLE. R194. -/
  | noticeEnable (tag : Nat) (kinds : BitVec 24)
  /-- DATE_SET. R195. -/
  | dateSet (tag : Nat) (day : Nat)
  /-- LINK_SET. R196; none where the request carries nothing. -/
  | linkSet (tag : Nat) (limit : Option Nat)
  /-- ENGINE_READY. R141. -/
  | engineReady
  /-- SWATH_REQUEST. R129. -/
  | swathRequest (ticket : Nat) (step : Nat)
  /-- SWATH_DONE. R133. -/
  | swathDone (ticket : Nat) (fed : Nat) (counts : Vector DropCounts 12)
  /-- FEED_DONE. R134. -/
  | feedDone (fed : Nat)
  /-- PURGE_DONE. R136, R60. -/
  | purgeDone (volumes : Vector Nat 12)
  /-- PARK_DONE. R136. -/
  | parkDone
  /-- CAP_DONE. R136. -/
  | capDone
  /-- UNCAP_DONE. R136. -/
  | uncapDone
  /-- ENGINE_FAULT. R139. -/
  | engineFault (code : Nat)
  /-- ENGINE_FRAME_INVALID. A malformed engine-link frame (R198). -/
  | engineFrameInvalid
  /-- SWATH_TIMER_EXPIRY. R138. -/
  | swathTimerExpiry
  /-- PAUSE_EXPIRY. R37. -/
  | pauseExpiry (ticket : TicketId)
  /-- SWITCH_TIMER_EXPIRY. R72. -/
  | switchTimerExpiry (channel : ChannelId)
  /-- PRESENCE_RISE. R67. -/
  | presenceRise (slot : TankId)
  /-- PRESENCE_FALL. R78, R99. -/
  | presenceFall (slot : TankId)
  /-- REQUEST_SENT. The last byte of the tag request frame has gone (R88). -/
  | requestSent
  /-- TAG_ANSWER. A whole answer frame from a tag (R90, R91, R93). -/
  | tagAnswer (frame : List Byte)
  /-- TURNAROUND_EXPIRY. R94; begun where part of a frame had arrived. -/
  | turnaroundExpiry (begun : Bool)
  /-- GUARD_EXPIRY. R99. -/
  | guardExpiry
  /-- ROLL_END_LINE_RISE. R108, R109. -/
  | rollEndLineRise (roll : RollId)
  /-- ROLL_END_LINE_FALL. R109. -/
  | rollEndLineFall (roll : RollId)
  /-- MEDIA_PRESENT_FALL. R108, R109. -/
  | mediaPresentFall (roll : RollId)
  /-- MEDIA_PRESENT_RISE. R109. -/
  | mediaPresentRise (roll : RollId)
  /-- EJECT_TIMER_EXPIRY. R121. -/
  | ejectTimerExpiry
  /-- HOME_LINE_RISE. R145, R147. -/
  | homeLineRise
  /-- END_LINE_RISE. R145, R147. -/
  | endLineRise
  /-- CUT_TIMER_EXPIRY. R148. -/
  | cutTimerExpiry
  /-- CAL_DONE. R161. -/
  | calDone (exchange : Nat) (ok : Bool)
  /-- RESULT. R162, R163. -/
  | result (exchange : Nat) (triples : List Lab)
  /-- SENSOR_ERROR. R162. -/
  | sensorError (exchange : Nat) (code : Nat)
  /-- SENSOR_TIMER_EXPIRY. R161, R162. -/
  | sensorTimerExpiry
  /-- SETTLE_TIMER_EXPIRY. R158. -/
  | settleTimerExpiry
  /-- SENSOR_FRAME_INVALID. A malformed sensor-link frame (R198). -/
  | sensorFrameInvalid
  /-- DOZE_TIMER_EXPIRY. R176. -/
  | dozeTimerExpiry
  /-- CAP_TIMER_EXPIRY. R176. -/
  | capTimerExpiry
  /-- BYTE_CLOCKED. One byte clocked in, and one out (R187, R192). -/
  | byteClocked (byte : Byte)
  /-- CUTTER_LINE_FALL. R145. -/
  | cutterLineFall (line : CarriageEnd)
deriving DecidableEq, Repr

end Sys2Proof
end

