-- ==== Sys2Proof/Decode.lean ====
section
/-! DEFINITION. The words and frames that spell a command. The opcode table gives no row any bits, so
`decodeTableWord` reads no command from a word. The frames of the command link, of the engine link and of
the sensor link are decoded here as 12_frame_and_record_layouts.md lays them out, each by a total function
on any bytes, with the checks of the tag bus and of both links (CRC-8, CRC-16). -/

namespace Sys2Proof

/-! ## Byte order: most significant byte first (12) -/

/-- The number spelled by bytes, most significant first. -/
def ofBytes (bs : List Byte) : Nat := bs.foldl (fun n b => n * 256 + b.toNat) 0

/-- A number in so many bytes, most significant first. -/
def toBytes : Nat → Nat → List Byte
  | 0, _ => []
  | k + 1, n => BitVec.ofNat 8 (n / 256 ^ k) :: toBytes k n

/-- A signed number in so many bytes, two's complement. -/
def toBytesInt (k : Nat) (x : Int) : List Byte := toBytes k (x % (256 ^ k : Nat)).toNat

/-- The number in `len` bytes from offset `at`. -/
def field (bs : List Byte) (at_ len : Nat) : Nat := ofBytes ((bs.drop at_).take len)

/-- A two's complement number in 2 bytes. -/
def signed16 (n : Nat) : Int := if n < 32768 then (n : Int) else (n : Int) - 65536

/-- The bit of a byte. -/
def flagOf (bs : List Byte) (at_ k : Nat) : Bool := (field bs at_ 1).testBit k

/-! ## Checks -/

/-- One bit of the CRC-8, polynomial x⁸+x²+x+1 (R90). -/
def crc8Bit (c : BitVec 8) : BitVec 8 := if c.msb then (c <<< 1) ^^^ 0x07 else c <<< 1

def crc8Byte (c : BitVec 8) (b : Byte) : BitVec 8 := Nat.repeat crc8Bit 8 (c ^^^ b)

/-- The CRC-8 of R90: initial value 00h, no final inversion. -/
def crc8 (bs : List Byte) : Byte := bs.foldl crc8Byte 0

/-- One bit of the CRC-16, polynomial x¹⁶+x¹²+x⁵+1 (R68). -/
def crc16Bit (c : BitVec 16) : BitVec 16 := if c.msb then (c <<< 1) ^^^ 0x1021 else c <<< 1

def crc16Byte (c : BitVec 16) (b : Byte) : BitVec 16 := Nat.repeat crc16Bit 8 (c ^^^ (b.setWidth 16 <<< 8))

/-- The image CRC-16 of R68: initial value FFFFh, no final inversion. -/
def crc16 (bs : List Byte) : BitVec 16 := bs.foldl crc16Byte 0xFFFF

/-- A frame with its CRC-8 appended. -/
def sealed (bs : List Byte) : List Byte := bs ++ [crc8 bs]

/-- Whether the last byte of a frame is the CRC-8 of those before it. -/
def sealOk (bs : List Byte) : Bool := bs.getLast? == some (crc8 bs.dropLast)

/-! ## Command link (12.1) -/

/-- The parameter block, from an offset. -/
def decodeParams (bs : List Byte) (o : Nat) : EditionParams :=
  { label := field bs o 4, size := field bs (o + 4) 2, mediaClass := field bs (o + 6) 1,
    channels := BitVec.ofNat 16 (field bs (o + 7) 2), policy := field bs (o + 9) 1,
    refset := field bs (o + 10) 1, tmax := field bs (o + 11) 2, tmean := field bs (o + 13) 2,
    twarn := field bs (o + 15) 2, strict := flagOf bs (o + 17) 1, trim := flagOf bs (o + 17) 2,
    holdThreshold := field bs (o + 18) 1 }

/-- The edition record of 12.2 without its in-flight byte, after the slot index (R197). -/
def decodeRecord (bs : List Byte) : RestoreRecord :=
  { state := field bs 1 1, label := field bs 2 4, size := field bs 6 2, next := field bs 8 2,
    good := field bs 10 2, spoiled := field bs 12 2, unverified := field bs 14 2,
    returnLength := field bs 16 1, returnPlaces := Vector.ofFn fun k => field bs (17 + 2 * k.val) 2,
    mediaClass := field bs 33 1, channels := BitVec.ofNat 16 (field bs 34 2),
    pinPresent := BitVec.ofNat 16 (field bs 36 2), pins := Vector.ofFn fun c => field bs (38 + 4 * c.val) 4,
    requalify := flagOf bs 86 0, strict := flagOf bs 86 1, trim := flagOf bs 86 2, locked := flagOf bs 86 3,
    measure := flagOf bs 86 4, refset := field bs 87 1, tmax := field bs 88 2, tmean := field bs 90 2,
    twarn := field bs 92 2, holdThreshold := field bs 94 1, fails := field bs 95 1,
    goodCost := field bs 96 6, spoilCost := field bs 102 6, goodInk := field bs 108 6,
    goodMedia := field bs 114 4 }

/-- A colour triple in 6 bytes: L* unsigned, a* and b* signed (12.5; log entry 11 for REFSET_LOAD). -/
def decodeLab (bs : List Byte) (o : Nat) : Lab :=
  { l := field bs o 2, a := signed16 (field bs (o + 2) 2), b := signed16 (field bs (o + 4) 2) }

/-- So many colour triples, from an offset. -/
def decodeLabs (bs : List Byte) (o : Nat) : Nat → List Lab
  | 0 => []
  | k + 1 => decodeLab bs o :: decodeLabs bs (o + 6) k

/-- The codes of 12.1 and their body lengths; none for a code outside the table. -/
def bodyLengthOk (code len : Nat) : Option Bool :=
  match code with
  | 0x10 => some (len == 20)
  | 0x11 => some (len == 22)
  | 0x12 | 0x13 | 0x14 | 0x15 | 0x17 => some (len == 1)
  | 0x16 => some (len == 118)
  | 0x18 => some (len == 4)
  | 0x20 => some (len == 7)
  | 0x21 | 0x22 | 0x24 => some (len == 1)
  | 0x23 => some (len == 0)
  | 0x25 => some (len == 2)
  | 0x30 => some (len == 7)
  | 0x31 => some (len == 8)
  | 0x32 | 0x33 | 0x34 => some (len == 0)
  | 0x40 | 0x41 | 0x42 | 0x44 => some (len == 1)
  | 0x43 => some (len == 3)
  | 0x48 => some (len == 0)
  | 0x50 => some (len == 12)
  | 0x51 => some (len == 10)
  | 0x52 | 0x53 | 0x54 => some (len == 1)
  | 0x55 => some (len == 2)
  | 0x56 | 0x57 | 0x60 => some (len == 0)
  | 0x68 => some (len == 1)
  | 0x69 => some (len == 4)
  | 0x6A => some (len == 0)
  | 0x70 => some (decide (2 ≤ len) && (len - 2) % 6 == 0 && decide ((len - 2) / 6 ≤ 41))
  | 0x71 | 0x72 => some (len == 1)
  | 0x73 | 0x74 => some (len == 0)
  | 0x80 => some (len == 7)
  | 0x81 => some (len == 49)
  | 0x82 => some (len == 3)
  | 0x83 | 0x84 => some (len == 1)
  | 0x85 | 0x90 => some (len == 0)
  | 0x91 | 0x92 => some (len == 3)
  | 0x93 => some (len == 2)
  | 0x94 => some (len == 0 || len == 2)
  | _ => none

/-- The request that a code of the table and a body of its length spell. -/
def decodeBody (code : Nat) (b : List Byte) : Request :=
  match code with
  | 0x10 => .editionCreate (field b 0 1) (decodeParams b 1)
  | 0x11 => .editionSet (field b 0 1) (BitVec.ofNat 16 (field b 1 2)) (decodeParams b 3)
  | 0x12 => .editionHold (field b 0 1)
  | 0x13 => .editionRelease (field b 0 1)
  | 0x14 => .editionClose (field b 0 1)
  | 0x15 => .editionRetire (field b 0 1)
  | 0x16 => .editionRestore (field b 0 1) (decodeRecord b)
  | 0x17 => .editionGet (field b 0 1)
  | 0x18 => .editionFind (field b 0 4)
  | 0x20 => .printAdmit (field b 0 1) (field b 1 2) (field b 3 2) (field b 5 2)
  | 0x21 => .ticketCancel (field b 0 1)
  | 0x22 => .ticketGet (field b 0 1)
  | 0x23 => .ticketList
  | 0x24 => .ticketCollect (field b 0 1)
  | 0x25 => .pauseLimitSet (field b 0 2)
  | 0x30 => .dropVolumesSet (field b 0 1) (field b 1 2) (field b 3 2) (field b 5 2)
  | 0x31 => .feeSet (field b 0 4) (field b 4 4)
  | 0x32 => .meterGet
  | 0x33 => .houseGet
  | 0x34 => .houseClear
  | 0x40 => .tankRelease (field b 0 1)
  | 0x41 => .tankReread (field b 0 1)
  | 0x42 => .tankGet (field b 0 1)
  | 0x43 => .channelSet (field b 0 1) (field b 1 1) (field b 2 1)
  | 0x44 => .channelGet (field b 0 1)
  | 0x48 => .tagbusGet
  | 0x50 => .rollLoad (field b 0 1) (field b 1 1) (field b 2 2) (field b 4 4) (field b 8 4)
  | 0x51 => .rollSet (field b 0 1) (BitVec.ofNat 8 (field b 1 1)) (field b 2 4) (field b 6 4)
  | 0x52 => .rollSelect (field b 0 1)
  | 0x53 => .rollUnload (field b 0 1)
  | 0x54 => .rollGet (field b 0 1)
  | 0x55 => .ejectDelaySet (field b 0 2)
  | 0x56 => .eject
  | 0x57 => .pathGet
  | 0x60 => .engineGet
  | 0x68 =>
    match field b 0 1 with
    | 0 => .cutterClearMade
    | 1 => .cutterClearRetry
    | _ => .malformed 1
  | 0x69 => .bladeFit (field b 0 4)
  | 0x6A => .cutterGet
  | 0x70 => .refsetLoad (field b 0 1) (field b 1 1) (decodeLabs b 2 ((b.length - 2) / 6))
  | 0x71 => .refsetClear (field b 0 1)
  | 0x72 => .refsetGet (field b 0 1)
  | 0x73 => .sensorReset
  | 0x74 => .sensorGet
  | 0x80 => .idleTimersSet (field b 0 2) (field b 2 4) (BitVec.ofNat 8 (field b 6 1))
  | 0x81 => .purgeVolumesSet (field b 0 1) (Vector.ofFn fun c => field b (1 + 4 * c.val) 4)
  | 0x82 => .purge (BitVec.ofNat 16 (field b 0 2)) (field b 2 1)
  | 0x83 =>
    match field b 0 1 with
    | 0 => .stopDrain
    | 1 => .stopNow
    | _ => .malformed 1
  | 0x84 => .resume (flagOf b 0 0)
  | 0x85 => .runGet
  | 0x90 => .noticeRead
  | 0x91 => .noticeClear (BitVec.ofNat 24 (field b 0 3))
  | 0x92 => .noticeEnable (BitVec.ofNat 24 (field b 0 3))
  | 0x93 => .dateSet (field b 0 2)
  | 0x94 => .linkSet (if b.length = 0 then none else some (field b 0 2))
  | _ => .unknownRequest code b.length

/-- R190, step 3: an unknown code, a known code with a body of another length, or the request. -/
def decodeRequest (code : Nat) (body : List Byte) : Request :=
  match bodyLengthOk code body.length with
  | none => .unknownRequest code body.length
  | some false => .malformed body.length
  | some true => decodeBody code body

/-! ## Engine link and sensor link (12.5) -/

/-- The 36 drop counts of a SWATH_DONE, from an offset. -/
def decodeCounts (bs : List Byte) (o : Nat) : Vector DropCounts 12 :=
  Vector.ofFn fun c =>
    { small := field bs (o + 12 * c.val) 4, medium := field bs (o + 12 * c.val + 4) 4,
      large := field bs (o + 12 * c.val + 8) 4 }

/-- Whether a link frame's length byte and CRC-8 are right (12.5, R198). -/
def linkFrameOk (bs : List Byte) : Bool := decide (3 ≤ bs.length) && field bs 0 1 == bs.length && sealOk bs

/-- The command that a frame received on the engine link spells; a frame whose CRC-8 fails, whose code is
not one of the engine's nine, or whose length is not that of its code is ENGINE_FRAME_INVALID (R198). -/
def decodeEngineFrame (bs : List Byte) : Instr :=
  if linkFrameOk bs then
    match field bs 1 1, bs.length with
    | 0x81, 3 => .engineReady
    | 0x82, 5 => .swathRequest (field bs 2 1) (field bs 3 1)
    | 0x83, 150 => .swathDone (field bs 2 1) (field bs 3 2) (decodeCounts bs 5)
    | 0x84, 5 => .feedDone (field bs 2 2)
    | 0x85, 51 => .purgeDone (Vector.ofFn fun c => field bs (2 + 4 * c.val) 4)
    | 0x86, 3 => .parkDone
    | 0x87, 3 => .capDone
    | 0x88, 3 => .uncapDone
    | 0x89, 4 => .engineFault (field bs 2 1)
    | _, _ => .engineFrameInvalid
  else .engineFrameInvalid

/-- The command that a frame received on the sensor link spells; one that fails as R198 lists, or a RESULT
whose length does not match its count byte, is SENSOR_FRAME_INVALID. A CAL_DONE whose outcome byte is
neither 00h nor 01h is taken as one too (log entry 12). -/
def decodeSensorFrame (bs : List Byte) : Instr :=
  if linkFrameOk bs then
    match field bs 1 1 with
    | 0x81 =>
      if bs.length = 5 then
        match field bs 3 1 with
        | 0 => .calDone (field bs 2 1) true
        | 1 => .calDone (field bs 2 1) false
        | _ => .sensorFrameInvalid
      else .sensorFrameInvalid
    | 0x82 =>
      if bs.length = 5 + 6 * field bs 3 1 ∧ 5 ≤ bs.length then
        .result (field bs 2 1) (decodeLabs bs 4 (field bs 3 1))
      else .sensorFrameInvalid
    | 0x83 => if bs.length = 5 then .sensorError (field bs 2 1) (field bs 3 1) else .sensorFrameInvalid
    | _ => .sensorFrameInvalid
  else .sensorFrameInvalid

/-! ## The table's words -/

/-- The command that a word of the opcode table spells: spec/opcode_table.json gives none of its rows any
bits, so no word spells one. -/
def decodeTableWord (_nbits _w : Nat) : Option Instr := none

end Sys2Proof
end

