-- ==== Sys2Proof/Machine/State.lean ====
section
/-! DEFINITION. What the part holds: the records of its eleven blocks (00_scope.md, "Block overview"), the
input lines the blocks read, the messages sent in the last event, the queue of waiting commands, and the
value of each at reset. Timers hold the milliseconds left, `none` while stopped. -/

namespace Sys2Proof.Machine

open Sys2Proof

/-! ## Editions (01_editions_and_print_numbers.md) -/

/-- The states of a slot that is not FREE (R1). -/
inductive EditionState where
  | opened
  | qualify
  | held
  | complete
  | closed
deriving DecidableEq, Repr

/-- The record of a slot that is not FREE (R1). The check policy is MEASURE exactly where the reference set
is present. -/
structure Edition where
  label : Nat
  state : EditionState
  size : Nat
  next : Nat
  good : Nat
  spoiled : Nat
  unverified : Nat
  returns : List Nat
  inFlight : Nat
  mediaClass : Nat
  channels : ChannelSet
  pins : Vector (Option Nat) 12
  requalify : Bool
  refset : Option RefsetId
  tmax : Nat
  tmean : Nat
  twarn : Nat
  strict : Bool
  trim : Bool
  holdThreshold : Nat
  fails : Nat
  locked : Bool
  goodCost : Nat
  spoilCost : Nat
  goodInk : Nat
  goodMedia : Nat
deriving DecidableEq, Repr

/-! ## Tickets (02_admission_and_print_tickets.md) -/

/-- The states of a ticket slot that is not FREE (2.2). -/
inductive TicketState where
  | admitted
  | printing
  | cancelling
  | travelling
  | closedGood
  | closedSpoiled
deriving DecidableEq, Repr

/-- A ticket's colour verdict (R22). -/
inductive Verdict where
  | none
  | pass
  | warn
  | fail
  | unverified
deriving DecidableEq, Repr

/-- Why a ticket was spoiled or withdrawn (R22), in the order of 12.3. -/
inductive SpoilCause where
  | colour
  | unverified
  | rollEnd
  | stopped
  | engine
  | pause
  | cancelled
  | held
  | qualify
deriving DecidableEq, Repr

/-- A ticket slot that is not FREE (R22), with its pause timer (R36) and the old path end recorded with its
placement (R114). The captured policy is MEASURE exactly where the captured reference set is present. -/
structure Ticket where
  state : TicketState
  serial : Nat
  edition : EditionId
  number : Nat
  qualifying : Bool
  changeSeen : Bool
  roll : RollId
  lm : Nat
  li : Nat
  lp : Nat
  lt : Nat
  l : Nat
  start : Option Nat
  oldEnd : Int
  fed : Nat
  refset : Option RefsetId
  patches : Nat
  tmax : Nat
  tmean : Nat
  twarn : Nat
  strict : Bool
  trim : Bool
  swathCount : Nat
  outstanding : Bool
  ink : Vector Nat 12
  acc : Nat
  fees : Nat
  lotMixed : Bool
  overdraw : Bool
  unverified : Bool
  saturated : Bool
  countClamped : Bool
  verdict : Verdict
  deMax : Option Nat
  deMean : Option Nat
  spoilCause : Option SpoilCause
  finalCost : Option Nat
  pauseTimer : Option Nat
deriving DecidableEq, Repr

/-- What the admission controller holds (R22, R23, R36). -/
structure Desk where
  tickets : Vector (Option Ticket) 8
  admitted : List TicketId
  path : List TicketId
  serial : Nat
  /-- in seconds -/
  pauseLimit : Nat
deriving DecidableEq, Repr

/-! ## Costing (03_ink_metering_and_costing.md) -/

/-- A channel's three drop volumes in tp (R43). -/
structure DropVolumes where
  small : Nat
  medium : Nat
  large : Nat
deriving DecidableEq, Repr

/-- What the costing unit holds (R43). -/
structure Costing where
  volumes : Vector DropVolumes 12
  residues : Vector Nat 12
  cutFee : Nat
  checkFee : Nat
  house : Nat
  houseSaturated : Bool
deriving DecidableEq, Repr

/-! ## Ink channels and tanks (04_ink_channels_and_tanks.md) -/

/-- Slot A or slot B of a channel (R65). -/
inductive Side where
  | a
  | b
deriving DecidableEq, Repr

/-- A channel's state with what it carries: the feeding slot in FED, the switch target and the switch timer
in SWITCHING (R65: each is present exactly in that state). -/
inductive Feed where
  | fed (slot : Side)
  | switching (target : Side) (timer : Nat)
  | starved
deriving DecidableEq, Repr

/-- A channel record (R65); floor and level in ml. -/
structure Channel where
  feed : Feed
  valve : Side
  floor : Nat
  level : Nat
  lastPrice : Nat
  overdraw : Nat
deriving DecidableEq, Repr

/-- A tank-slot record (R66), fills in nL. -/
structure TankRecord where
  kind : Nat
  lot : Nat
  capacity : Nat
  fill : Nat
  price : Nat
  expiry : Nat
  lastWritten : Nat
  writeMark : Nat
  stale : Bool
  expired : Bool
  releasePending : Bool
deriving DecidableEq, Repr

/-- The reasons of a REJECTED slot that keeps no image (R66). -/
inductive BareReason where
  | silent
  | check
  | format
deriving DecidableEq, Repr

/-- The states of a slot that holds a record; a REJECTED slot keeps one where its reason is KIND or EXPIRED
(R66). -/
inductive HeldState where
  | standby
  | feeding
  | spent
  | depleted
  | rejectedKind
  | rejectedExpired
  | released
deriving DecidableEq, Repr

/-- A tank slot (R66): READING and a bare REJECTED hold at most a remembered fill, the other states but
EMPTY a record. -/
inductive TankSlot where
  | empty
  | reading (remembered : Option Nat)
  | rejectedBare (reason : BareReason) (remembered : Option Nat)
  | held (state : HeldState) (rec : TankRecord)
deriving DecidableEq, Repr

/-- What the ink supply controller holds (R65, R66), with the presence lines it reads. -/
structure Supply where
  channels : Vector Channel 12
  tanks : Vector TankSlot 24
  presence : Vector Bool 24
deriving DecidableEq, Repr

/-! ## The tank tag bus (05_the_tank_tag_bus.md) -/

/-- An operation of the tag bus (R88). -/
inductive TagOp where
  | read
  | write (fill : Nat)
deriving DecidableEq, Repr

/-- The transaction on the bus; `retry` in attempt 2 (R88). -/
structure TagTransaction where
  slot : TankId
  op : TagOp
  retry : Bool
deriving DecidableEq, Repr

/-- The phase with what it carries: the transaction in REQUEST and TURNAROUND, the running timer in
TURNAROUND and GUARD (R88). -/
inductive TagPhase where
  | idle
  | request (tx : TagTransaction)
  | turnaround (tx : TagTransaction) (timer : Nat)
  | guard (timer : Nat)
deriving DecidableEq, Repr

/-- What the tag bus controller holds (R88). -/
structure TagBus where
  phase : TagPhase
  waiting : Vector (Option TagOp) 24
  pointer : TankId
  images : Vector (Option (List Byte)) 24
deriving DecidableEq, Repr

/-! ## Rolls and the media path (06_rolls_and_the_media_path.md) -/

/-- The states of a roll that is not ABSENT (R102). -/
inductive RollState where
  | loaded
  | active
  | ended
deriving DecidableEq, Repr

/-- The record of a roll that is not ABSENT (R102). -/
structure Roll where
  state : RollState
  mediaClass : Nat
  width : Nat
  remaining : Nat
  price : Nat
  threshold : Nat
deriving DecidableEq, Repr

/-- The kinds of stop action; a LEAD_TRIM carries its gap (R117). -/
inductive StopKind where
  | leadTrim (gap : Nat)
  | patchRead
  | separate
  | trailCut
deriving DecidableEq, Repr

/-- A stop action (R117). -/
structure StopAction where
  kind : StopKind
  ticket : TicketId
  handed : Bool
deriving DecidableEq, Repr

/-- An entry of the stop list (R117). -/
structure StopEntry where
  position : Nat
  actions : List StopAction
deriving DecidableEq, Repr

/-- What the media path controller holds (R102, R111, R117, R121), with the roll lines it reads. -/
structure Media where
  rolls : Vector (Option Roll) 2
  mediaPresent : Vector Bool 2
  rollEnd : Vector Bool 2
  position : Nat
  pathEnd : Int
  stops : List StopEntry
  /-- in seconds -/
  ejectDelay : Nat
  ejectTimer : Option Nat
  eject : Bool
deriving DecidableEq, Repr

/-! ## The print engine link (07_the_print_engine_link.md) -/

/-- The purpose of a FEED; an owed feed serves a ticket (R125). -/
inductive FeedPurpose where
  | owed (ticket : TicketId)
  | eject
deriving DecidableEq, Repr

/-- The operation the engine carries out (R125). -/
inductive EngineOpKind where
  | swath (ticket : TicketId) (allowance : Nat)
  | feed (distance : Nat) (purpose : FeedPurpose)
  | purge (channels : ChannelSet) (volumes : Vector Nat 12)
  | park
  | cap
  | uncap
deriving DecidableEq, Repr

/-- The outstanding operation (R125). -/
structure EngineOp where
  kind : EngineOpKind
  aborted : Bool
deriving DecidableEq, Repr

/-- The pending swath request (R125). -/
structure SwathRequest where
  ticket : TicketId
  step : Nat
  held : Bool
deriving DecidableEq, Repr

/-- What the engine link controller holds (R125). The owed feed is `none` while it is 0. -/
structure EngineLink where
  op : Option EngineOp
  request : Option SwathRequest
  owed : Option (TicketId × Nat)
  swathTimer : Option Nat
  lastFault : Option Nat
deriving DecidableEq, Repr

/-- The holds of a swath request (R130), in the order of its table. -/
inductive Hold where
  | stopAtHead
  | channelUnfed
  | needsPurge
  | owedFeed
  | cutter
  | sensor
deriving DecidableEq, Repr

/-! ## The cutter (08_the_cutter.md) -/

/-- The kinds of cut action (R144). -/
inductive CutKind where
  | leadTrim
  | separate
  | trailCut
deriving DecidableEq, Repr

/-- The cut action held (R144). -/
structure HeldCut where
  kind : CutKind
  ticket : TicketId
  ignored : Bool
deriving DecidableEq, Repr

/-- The cutter's state with what it carries (R144). The drive is on toward the target in CUTTING and off in
every other state. -/
inductive CutterState where
  | idle
  | cutting (target : CarriageEnd) (timer : Nat) (action : HeldCut)
  | jammed (action : HeldCut)
  | worn (waiting : Option HeldCut)
deriving DecidableEq, Repr

/-- What the cutter controller holds (R144), with the two lines it reads. -/
structure Cutter where
  state : CutterState
  life : Nat
  side : CarriageEnd
  homeLine : Bool
  endLine : Bool
deriving DecidableEq, Repr

/-! ## Colour checks (09_colour_checks.md) -/

/-- A reference set (R153). -/
structure RefSet where
  targets : List Lab
  useCount : Nat
deriving DecidableEq, Repr

/-- The sensor states (R157). -/
inductive SensorState where
  | uncalibrated
  | calibrating
  | idle
  | measuring
  | failed
deriving DecidableEq, Repr

/-- The held read (R157), with the targets copied when it was handed (R160); `retry` in attempt 2. -/
structure HeldRead where
  ticket : TicketId
  set : RefsetId
  patches : Nat
  retry : Bool
  discard : Bool
  targets : List Lab
deriving DecidableEq, Repr

/-- What the colour check unit holds (R153, R157). -/
structure Colour where
  sets : Vector RefSet 16
  sensor : SensorState
  calCount : Nat
  exchange : Nat
  held : Option HeldRead
  timer : Option Nat
  settle : Option Nat
  lastError : Option Nat
deriving DecidableEq, Repr

/-! ## The run (10_run_states_head_care_and_stopping.md) -/

/-- The run states (R172). -/
inductive RunState where
  | engineWait
  | idle
  | running
  | draining
  | paused
  | doze
  | capped
  | waking
  | halted
deriving DecidableEq, Repr

/-- The halt causes (R172). -/
inductive HaltCause where
  | stop
  | fault
  | swathTimeout
  | slip
  | protocol
  | restart
  | rollEnd
deriving DecidableEq, Repr

/-- The condition of the heads at a halt (R172). -/
inductive Heads where
  | ready
  | unpurged
  | covered
deriving DecidableEq, Repr

/-- A purge level (R172). -/
inductive Level where
  | light
  | heavy
deriving DecidableEq, Repr

/-- The step of a wake (R172). -/
inductive WakeStep where
  | uncap
  | purge
deriving DecidableEq, Repr

/-- The reload sources (R174), in the order R172 lists them. -/
inductive ReloadSource where
  | byAdmission
  | bySwath
  | byRequest
  | byTank
  | byRoll
deriving DecidableEq, Repr

/-- Why a purge was ordered (R172); a single-channel purge names its channel. -/
inductive PurgeKind where
  | wake
  | single (channel : ChannelId)
  | manual
deriving DecidableEq, Repr

/-- A head-care operation (R172). -/
inductive HeadOp where
  | park
  | cap
  | uncap
  | purge (kind : PurgeKind)
deriving DecidableEq, Repr

/-- The occupied head-care slot (R175): presented and not sent, or sent and not reported. The channel set
and volumes of a purge are fixed at its sending and stand in the outstanding operation. -/
structure HeadSlot where
  op : HeadOp
  sent : Bool
deriving DecidableEq, Repr

/-- The PARK or CAP that DOZE or CAPPED wants and has not presented (R176). -/
inductive Wanted where
  | park
  | cap
deriving DecidableEq, Repr

/-- The run record (R172). -/
structure RunRecord where
  state : RunState
  haltCause : Option HaltCause
  protocolError : Bool
  headsAtHalt : Option Heads
  resumeWait : Bool
  /-- in seconds -/
  dozeLimit : Nat
  /-- in seconds -/
  capLimit : Nat
  dozeTimer : Option Nat
  capTimer : Option Nat
  reload : ReloadSet
  lightVolumes : Vector Nat 12
  heavyVolumes : Vector Nat 12
  needsPurge : Vector (Option Level) 12
  wake : Option (Level × WakeStep)
  slot : Option HeadSlot
  manual : Option (ChannelSet × Level)
  wanted : Option Wanted
deriving DecidableEq, Repr

/-! ## The command link and notices (11_the_command_link_and_notices.md) -/

/-- The reply statuses (12.1), in the order of their codes. -/
inductive Status where
  | ok
  | badSlot
  | badState
  | range
  | locked
  | inUse
  | busy
  | noNumber
  | noTicket
  | noMedia
  | wrongMedia
  | tooNarrow
  | qualifyBusy
  | duplicate
  | noRefset
  | unknown
deriving DecidableEq, Repr

/-- The causes of a discarded frame (R188). -/
inductive LinkError where
  | length
  | short
  | overrun
deriving DecidableEq, Repr

/-- The 18 notice kinds (11.5), in the order of their numbers. -/
inductive Notice where
  | ticketClosed
  | editionHeld
  | editionQualify
  | editionComplete
  | driftWarn
  | channelReserve
  | channelStarved
  | tankRejected
  | tankRemoved
  | tagFault
  | rollLow
  | rollEnd
  | cutterJam
  | bladeWorn
  | sensorFault
  | engineFault
  | runHalted
  | linkError
deriving DecidableEq, Repr

/-- A frame accepted and not yet executed: the bytes it occupies, its tag, and the request its code and
body spell. -/
structure QueuedFrame where
  length : Nat
  tag : Nat
  request : Request
deriving DecidableEq, Repr

/-- The frame in receipt (R187): the bytes stored, the first two bytes clocked, how many bytes were clocked
in, and whether a byte found no free space. -/
structure Receipt where
  stored : List Byte
  head : List Byte
  clocked : Nat
  lost : Bool
deriving DecidableEq, Repr

/-- The states of a tank slot (R66). -/
inductive TankState where
  | empty
  | reading
  | standby
  | feeding
  | spent
  | depleted
  | rejected
  | released
deriving DecidableEq, Repr

/-- The held read as SENSOR_GET shows it, less its targets (R170). -/
structure HeldReadView where
  ticket : TicketId
  set : RefsetId
  patches : Nat
  retry : Bool
  discard : Bool
deriving DecidableEq, Repr

/-- The row of one ticket slot in TICKET_LIST (R41). -/
structure TicketRow where
  state : TicketState
  serial : Nat
  edition : EditionId
  number : Nat
deriving DecidableEq, Repr

/-- The items of a reply, as the rule of its request lists them. -/
inductive ReplyBody where
  | empty
  | slot (index : Nat)
  | landing (state : EditionState)
  | edition (record : Option Edition)
  | admission (ticket : TicketId) (serial number length : Nat) (qualifying : Bool)
  | statement (id : TicketId) (ticket : Option Ticket)
  | ticketList (rows : List (Option TicketRow)) (admitted path : List TicketId) (pauseLimit : Nat)
  | pauseLimit (seconds : Nat)
  | dropVolumes (volumes : DropVolumes)
  | fees (cut check : Nat)
  | meter (volumes : Vector DropVolumes 12) (residues : Vector Nat 12) (cut check : Nat)
  | house (rounded remainder : Nat) (saturated : Bool)
  | tank (slot : TankSlot)
  | channel (record : Channel) (needsPurge : Option Level) (slotA slotB : TankState)
  | tagBus (phase : TagPhase) (pointer : TankId) (waiting : Vector (Option TagOp) 24)
  | roll (record : Option Roll) (mediaPresent rollEnd : Bool) (reservation : Nat)
  | ejectDelay (seconds : Nat)
  | path (active : Option RollId) (position : Nat) (pathEnd : Int) (delay : Nat) (timer : Option Nat)
      (eject : Bool) (stops : List StopEntry)
  | engine (link : EngineLink) (holds : List Hold)
  | cutter (record : Cutter)
  | bladeLife (life : Nat)
  | patchCount (count : Nat)
  | refset (useCount : Nat) (targets : List Lab)
  | sensor (state : SensorState) (calCount : Nat) (due : Bool) (exchange : Nat) (held : Option HeldReadView)
      (timer lastError : Option Nat)
  | idleTimers (doze cap : Nat) (sources : ReloadSet)
  | purgeVolumes (volumes : Vector Nat 12)
  | run (record : RunRecord) (purge : Option (ChannelSet × Vector Nat 12))
  | notices (pending enabled : NoticeSet) (lastError : Option LinkError)
  | noticeSet (kinds : NoticeSet)
  | dates (previous new : Nat)
  | linkSettings (limit date : Nat) (lastError : Option LinkError) (freeCommand freeReply : Nat)
deriving DecidableEq, Repr

/-- The reply in progress (R186): its tag, its status, the part of its body not yet placed, and the reply
limit in force at the execution (R191). -/
structure ReplyInProgress where
  tag : Nat
  status : Status
  rest : List Byte
  limit : Nat
deriving DecidableEq, Repr

/-- What the command link controller holds (R186), less the notice sets and the date. -/
structure Link where
  command : List QueuedFrame
  receipt : Option Receipt
  reply : List Byte
  inProgress : Option ReplyInProgress
  limit : Nat
  lastError : Option LinkError
deriving DecidableEq, Repr

/-- The two notice sets (R186). -/
structure Notices where
  pending : NoticeSet
  enabled : NoticeSet
deriving DecidableEq, Repr

/-! ## What the part sends -/

/-- The messages the part sends the engine (R126). -/
inductive EngineMessage where
  | ticketStart (ticket : TicketId) (lm li lp lt patches : Nat)
  | grant (ticket : TicketId) (allowance : Nat)
  | deny (ticket : TicketId)
  | feed (distance : Nat)
  | purge (channels : ChannelSet) (volumes : Vector Nat 12)
  | park
  | cap
  | uncap
  | abort
deriving DecidableEq, Repr

/-- The messages the part sends the sensor head (9.2). -/
inductive SensorMessage where
  | calibrate (exchange : Nat)
  | measure (exchange patches : Nat)
deriving DecidableEq, Repr

/-- What leaves the part at its ports: messages, tag-bus request frames, bytes clocked out, and the reply
that an executed request was given. -/
inductive Output where
  | engine (message : EngineMessage)
  | sensor (message : SensorMessage)
  | tag (frame : List Byte)
  | byte (value : Byte)
  | reply (tag : Nat) (status : Status) (body : ReplyBody)
deriving DecidableEq, Repr

/-! ## The whole machine -/

/-- Reasons for which the machine stops. No rule of the spec describes an event that stops the part, so there
is none. -/
inductive Fault where
deriving DecidableEq, Repr

/-- Reasons for which a command is given no meaning. -/
inductive Refusal where
  /-- Raised by an arm of `exec` whose command has no meaning in the model; safe. No arm raises it. -/
  | notModelled (mnemonic : String)
deriving DecidableEq, Repr

/-- The whole machine. `out` is the model's own record of what the last event sent; `pending` is the queue
of the commands that are waiting, the first at the front. -/
structure State where
  editions : Vector (Option Edition) 64
  desk : Desk
  costing : Costing
  supply : Supply
  tags : TagBus
  media : Media
  engine : EngineLink
  cutter : Cutter
  colour : Colour
  run : RunRecord
  link : Link
  notices : Notices
  date : Nat
  out : List Output
  pending : List Instr
deriving DecidableEq, Repr

/-- R22, R23, R36. -/
def Desk.reset : Desk :=
  { tickets := Vector.replicate 8 none, admitted := [], path := [], serial := 0, pauseLimit := 120 }

/-- R43. -/
def Costing.reset : Costing :=
  { volumes := Vector.replicate 12 { small := 20, medium := 50, large := 120 },
    residues := Vector.replicate 12 0, cutFee := 0, checkFee := 0, house := 0, houseSaturated := false }

/-- R65. -/
def Channel.reset : Channel :=
  { feed := .starved, valve := .a, floor := 30, level := 2, lastPrice := 0, overdraw := 0 }

/-- R65, R66. The presence lines low: DESIGN CHOICE, the spec states no level (log entry 1). -/
def Supply.reset : Supply :=
  { channels := Vector.replicate 12 Channel.reset, tanks := Vector.replicate 24 .empty,
    presence := Vector.replicate 24 false }

/-- R88. -/
def TagBus.reset : TagBus :=
  { phase := .idle, waiting := Vector.replicate 24 none, pointer := 23, images := Vector.replicate 24 none }

/-- R102, R111, R117, R121. The roll lines low: DESIGN CHOICE (log entry 1). -/
def Media.reset : Media :=
  { rolls := Vector.replicate 2 none, mediaPresent := Vector.replicate 2 false,
    rollEnd := Vector.replicate 2 false, position := 0, pathEnd := -750, stops := [], ejectDelay := 300,
    ejectTimer := none, eject := false }

/-- R125. -/
def EngineLink.reset : EngineLink :=
  { op := none, request := none, owed := none, swathTimer := none, lastFault := none }

/-- R144, with both lines low: DESIGN CHOICE (log entry 1); the side is then HOME. -/
def Cutter.reset : Cutter :=
  { state := .worn none, life := 0, side := .homeEnd, homeLine := false, endLine := false }

/-- R153, R157. -/
def Colour.reset : Colour :=
  { sets := Vector.replicate 16 { targets := [], useCount := 0 }, sensor := .uncalibrated, calCount := 0,
    exchange := 0, held := none, timer := none, settle := some 10000, lastError := none }

/-- R172. The reload-source set holds ADMIT, SWATH, TANK and ROLL. -/
def RunRecord.reset : RunRecord :=
  { state := .engineWait, haltCause := none, protocolError := false, headsAtHalt := none, resumeWait := false,
    dozeLimit := 300, capLimit := 1800, dozeTimer := none, capTimer := none, reload := 0b11011,
    lightVolumes := Vector.replicate 12 150000, heavyVolumes := Vector.replicate 12 600000,
    needsPurge := Vector.replicate 12 none, wake := none, slot := none, manual := none, wanted := none }

/-- R186. -/
def Link.reset : Link :=
  { command := [], receipt := none, reply := [], inProgress := none, limit := 64, lastError := none }

/-- R186: every flag clear, every kind enabled. -/
def Notices.reset : Notices :=
  { pending := 0, enabled := 0x3FFFF }

/-- The machine right after power-on (R186), with no tank seated and every input line low (log entry 1). -/
def State.reset : State :=
  { editions := Vector.replicate 64 none, desk := Desk.reset, costing := Costing.reset, supply := Supply.reset,
    tags := TagBus.reset, media := Media.reset, engine := EngineLink.reset, cutter := Cutter.reset,
    colour := Colour.reset, run := RunRecord.reset, link := Link.reset, notices := Notices.reset, date := 0,
    out := [], pending := [] }

end Sys2Proof.Machine
end

