-- ==== Sys2Proof/Machine/Ops.lean ====
section
/-! DEFINITION. The named operations over the records: replacing one block of the state, reading and writing
one record of a table, raising a notice, sending a message, and the saturating sum. Every block writes state
through these. -/

namespace Sys2Proof.Machine

open Sys2Proof

/-! ## One block of the state at a time -/

def State.withEditions (s : State) (x : Vector (Option Edition) 64) : State := { s with editions := x }
def State.withDesk (s : State) (x : Desk) : State := { s with desk := x }
def State.withCosting (s : State) (x : Costing) : State := { s with costing := x }
def State.withSupply (s : State) (x : Supply) : State := { s with supply := x }
def State.withTags (s : State) (x : TagBus) : State := { s with tags := x }
def State.withMedia (s : State) (x : Media) : State := { s with media := x }
def State.withEngine (s : State) (x : EngineLink) : State := { s with engine := x }
def State.withCutter (s : State) (x : Cutter) : State := { s with cutter := x }
def State.withColour (s : State) (x : Colour) : State := { s with colour := x }
def State.withRun (s : State) (x : RunRecord) : State := { s with run := x }
def State.withLink (s : State) (x : Link) : State := { s with link := x }
def State.withNotices (s : State) (x : Notices) : State := { s with notices := x }
def State.withDate (s : State) (x : Nat) : State := { s with date := x }
def State.withOut (s : State) (x : List Output) : State := { s with out := x }
def State.withPending (s : State) (x : List Instr) : State := { s with pending := x }

/-! ## One record of a table -/

/-- The vector with one element replaced. -/
def put {α : Type} {n : Nat} (v : Vector α n) (i : Fin n) (x : α) : Vector α n := v.set i.val x i.isLt

/-- The record of an edition slot, none where it is FREE. -/
def State.edition (s : State) (i : EditionId) : Option Edition := s.editions[i]
def State.setEdition (s : State) (i : EditionId) (e : Edition) : State := s.withEditions (put s.editions i (some e))
/-- R10: the slot becomes FREE. -/
def State.freeEdition (s : State) (i : EditionId) : State := s.withEditions (put s.editions i none)
/-- Changes the record of a slot that is not FREE. -/
def State.modEdition (s : State) (i : EditionId) (f : Edition → Edition) : State :=
  match s.edition i with
  | none => s
  | some e => s.setEdition i (f e)

/-- The ticket of a slot, none where it is FREE. -/
def State.ticket (s : State) (t : TicketId) : Option Ticket := s.desk.tickets[t]
def State.setTicket (s : State) (t : TicketId) (k : Ticket) : State :=
  s.withDesk { s.desk with tickets := put s.desk.tickets t (some k) }
def State.freeTicket (s : State) (t : TicketId) : State :=
  s.withDesk { s.desk with tickets := put s.desk.tickets t none }
/-- Changes the ticket of a slot that is not FREE. -/
def State.modTicket (s : State) (t : TicketId) (f : Ticket → Ticket) : State :=
  match s.ticket t with
  | none => s
  | some k => s.setTicket t (f k)

def State.channel (s : State) (c : ChannelId) : Channel := s.supply.channels[c]
def State.setChannel (s : State) (c : ChannelId) (x : Channel) : State :=
  s.withSupply { s.supply with channels := put s.supply.channels c x }

def State.tank (s : State) (t : TankId) : TankSlot := s.supply.tanks[t]
def State.setTank (s : State) (t : TankId) (x : TankSlot) : State :=
  s.withSupply { s.supply with tanks := put s.supply.tanks t x }

def State.roll (s : State) (r : RollId) : Option Roll := s.media.rolls[r]
def State.setRoll (s : State) (r : RollId) (x : Option Roll) : State :=
  s.withMedia { s.media with rolls := put s.media.rolls r x }

def State.refset (s : State) (r : RefsetId) : RefSet := s.colour.sets[r]
def State.setRefset (s : State) (r : RefsetId) (x : RefSet) : State :=
  s.withColour { s.colour with sets := put s.colour.sets r x }

/-- The tank slot of a channel's side: 2c is A, 2c+1 is B (R66). -/
def tankOf (c : ChannelId) : Side → TankId
  | .a => ⟨2 * c.val, by omega⟩
  | .b => ⟨2 * c.val + 1, by omega⟩

/-- The channel of a tank slot (R66). -/
def channelOf (t : TankId) : ChannelId := ⟨t.val / 2, by omega⟩

/-- The side of a tank slot (R66). -/
def sideOf (t : TankId) : Side := if t.val % 2 = 0 then .a else .b

def Side.other : Side → Side
  | .a => .b
  | .b => .a

/-- The record of a slot that holds one. -/
def TankSlot.record : TankSlot → Option TankRecord
  | .held _ r => some r
  | _ => none

/-- Changes the record of a slot that holds one, keeping its state. -/
def TankSlot.modRecord (x : TankSlot) (f : TankRecord → TankRecord) : TankSlot :=
  match x with
  | .held st r => .held st (f r)
  | y => y

/-- The purge volumes of a level (R172). -/
def RunRecord.volumesAt (r : RunRecord) : Level → Vector Nat 12
  | .light => r.lightVolumes
  | .heavy => r.heavyVolumes

/-- The index of the ACTIVE roll (R102: at most one is). -/
def State.activeRoll (s : State) : Option RollId :=
  (List.finRange 2).find? fun r => match s.roll r with | some x => x.state == .active | none => false

/-! ## Notices and messages -/

/-- The number of a notice kind (11.5). -/
def Notice.number : Notice → Nat
  | .ticketClosed => 0
  | .editionHeld => 1
  | .editionQualify => 2
  | .editionComplete => 3
  | .driftWarn => 4
  | .channelReserve => 5
  | .channelStarved => 6
  | .tankRejected => 7
  | .tankRemoved => 8
  | .tagFault => 9
  | .rollLow => 10
  | .rollEnd => 11
  | .cutterJam => 12
  | .bladeWorn => 13
  | .sensorFault => 14
  | .engineFault => 15
  | .runHalted => 16
  | .linkError => 17

/-- The set holding one notice kind. -/
def Notice.bit (k : Notice) : NoticeSet := 1#18 <<< k.number

/-- R193: the kind's pending flag becomes set. -/
def State.raise (s : State) (k : Notice) : State :=
  s.withNotices { s.notices with pending := s.notices.pending ||| k.bit }

/-- A notice raised where a condition holds. -/
def State.raiseIf (s : State) (c : Bool) (k : Notice) : State := if c then s.raise k else s

/-- One thing more leaves the part in this event. -/
def State.emit (s : State) (o : Output) : State := s.withOut (s.out ++ [o])

/-- The start of an event: nothing has been sent in it yet. -/
def State.begin (s : State) : State := s.withOut []

/-! ## Arithmetic -/

/-- The largest value of a field of the given number of bits. -/
def top (bits : Nat) : Nat := 2 ^ bits - 1

/-- R1: a sum that would pass the bound holds at it. -/
def satAdd (bound a b : Nat) : Nat := if bound < a + b then bound else a + b

/-- Half-up rounding of µcu to cu (R57). -/
def roundCu (micro : Nat) : Nat := micro / 1000000 + (if 500000 ≤ micro % 1000000 then 1 else 0)

/-- A number inserted at its place in an ascending list (R14). -/
def insertAsc (n : Nat) : List Nat → List Nat
  | [] => [n]
  | m :: ms => if n ≤ m then n :: m :: ms else m :: insertAsc n ms

/-- Millilitres as nanolitres: 1 ml = 1,000,000 nL (00_scope.md, Units). -/
def mlToNl (ml : Nat) : Nat := ml * 1000000

/-- A timer loaded with a limit in seconds; a limit of 0 means that it never runs. -/
def loadSeconds (limit : Nat) : Option Nat := if limit = 0 then none else some (limit * 1000)

/-! ## Replies -/

/-- The status and items with which a request is answered. -/
structure Reply where
  status : Status
  body : ReplyBody
deriving DecidableEq, Repr

/-- A refusal: the state as it was, and an empty body (R197). -/
def refuse (st : Status) (s : State) : State × Reply := (s, ⟨st, .empty⟩)

/-- An acceptance. -/
def accept (s : State) (body : ReplyBody) : State × Reply := (s, ⟨.ok, body⟩)

end Sys2Proof.Machine
end

