-- ==== Sys2Proof/Machine/Clock.lean ====
section
/-! DEFINITION. The passing of time (log entry 2): the timers that stand at 0 and have not been taken, in one
fixed order, and the millisecond that every running timer counts down by. -/

namespace Sys2Proof.Machine

open Sys2Proof

/-- A timer that runs and stands at 0. -/
def atZero (t : Option Nat) : Bool := t == some 0

/-- The expiry that is due on the tag bus (R94, R99). -/
def TagPhase.due : TagPhase → Option Instr
  | .turnaround _ 0 => some (.turnaroundExpiry false)
  | .guard 0 => some .guardExpiry
  | _ => none

/-- The switch timer that stands at 0, of the lowest channel (R72). -/
def Supply.due (x : Supply) : Option Instr :=
  ((List.finRange 12).find? fun c => match x.channels[c].feed with | .switching _ 0 => true | _ => false).map
    Instr.switchTimerExpiry

/-- The cut timer's expiry (R148). -/
def CutterState.due : CutterState → Option Instr
  | .cutting _ 0 _ => some .cutTimerExpiry
  | _ => none

/-- The sensor timer's expiry, or the settle timer's (R158). -/
def Colour.due (c : Colour) : Option Instr :=
  if atZero c.timer then some .sensorTimerExpiry
  else if atZero c.settle then some .settleTimerExpiry
  else none

/-- The pause timer that stands at 0, of the lowest ticket (R37). -/
def Desk.due (x : Desk) : Option Instr :=
  ((List.finRange 8).find? fun t => match x.tickets[t] with | some k => atZero k.pauseTimer | none => false).map
    Instr.pauseExpiry

/-- The idle timers' expiries (R176). -/
def RunRecord.due (r : RunRecord) : Option Instr :=
  if atZero r.dozeTimer then some .dozeTimerExpiry
  else if atZero r.capTimer then some .capTimerExpiry
  else none

/-- The expiry that is due, the first in the order: tag bus, channels, cutter, sensor, engine, tickets,
eject, run. -/
def State.due (s : State) : Option Instr :=
  (((((((s.tags.phase.due).or s.supply.due).or s.cutter.state.due).or s.colour.due).or
    (if atZero s.engine.swathTimer then some .swathTimerExpiry else none)).or s.desk.due).or
    (if atZero s.media.ejectTimer then some .ejectTimerExpiry else none)).or s.run.due

/-- One millisecond off a timer. -/
def down (t : Option Nat) : Option Nat := t.map (· - 1)

def TagPhase.down : TagPhase → TagPhase
  | .turnaround tx n => .turnaround tx (n - 1)
  | .guard n => .guard (n - 1)
  | p => p

def Channel.down (c : Channel) : Channel :=
  match c.feed with
  | .switching x n => { c with feed := .switching x (n - 1) }
  | _ => c

def CutterState.down : CutterState → CutterState
  | .cutting x n h => .cutting x (n - 1) h
  | c => c

def Ticket.down (k : Ticket) : Ticket := { k with pauseTimer := Sys2Proof.Machine.down k.pauseTimer }

/-- One millisecond passes: every running timer counts down by 1, and nothing else changes. -/
def State.countDown (s : State) : State :=
  let s := s.withTags { s.tags with phase := s.tags.phase.down }
  let s := s.withSupply { s.supply with channels := Vector.ofFn fun c => s.supply.channels[c].down }
  let s := s.withCutter { s.cutter with state := s.cutter.state.down }
  let s := s.withColour { s.colour with timer := down s.colour.timer, settle := down s.colour.settle }
  let s := s.withEngine { s.engine with swathTimer := down s.engine.swathTimer }
  let s := s.withDesk { s.desk with tickets := Vector.ofFn fun t => s.desk.tickets[t].map Ticket.down }
  let s := s.withMedia { s.media with ejectTimer := down s.media.ejectTimer }
  s.withRun { s.run with dozeTimer := down s.run.dozeTimer, capTimer := down s.run.capTimer }

end Sys2Proof.Machine
end

