-- ==== Sys2Proof/Machine/Operands.lean ====
section
/-! DEFINITION. The operand forms: an index tested against its table, a value clamped to its range, the
range tests of the edition parameters, and the sets a request carries. -/

namespace Sys2Proof.Machine

open Sys2Proof

/-- An index within its table; an index outside it is refused BAD_SLOT by the request's rule. -/
def asId (n : Nat) (i : Nat) : Option (Fin n) := if h : i < n then some ⟨i, h⟩ else none

/-- A value clamped to the nearest end of its range (00_scope.md, Out-of-range values). -/
def clamp (lo hi x : Nat) : Nat := max lo (min hi x)

/-- As `clamp`, on signed values. -/
def clampInt (lo hi x : Int) : Int := max lo (min hi x)

/-- A limit whose 0 is kept as 0, every other value clamped (R121, R174). -/
def clampOrZero (lo hi x : Nat) : Nat := if x = 0 then 0 else clamp lo hi x

/-- Whether x lies in lo..hi. -/
def within (lo hi x : Nat) : Bool := decide (lo ≤ x) && decide (x ≤ hi)

/-- A colour triple clamped to its ranges (R154, R163). -/
def clampLab (x : Lab) : Lab :=
  { l := clampInt 0 10000 x.l, a := clampInt (-12800) 12799 x.a, b := clampInt (-12800) 12799 x.b }

/-- R197: a channel set with any of bits 12..15 names a channel above 11, and an empty one names none. -/
def channelsOk (x : BitVec 16) : Bool := x != 0 && decide (x.toNat < 4096)

/-- The channels of a carried set, once tested. -/
def toChannels (x : BitVec 16) : ChannelSet := x.setWidth 12

/-- The notice kinds of a carried 3-byte set; bits above the 18 kinds name none (log entry 10). -/
def toKinds (x : BitVec 24) : NoticeSet := x.setWidth 18

/-- The reload sources of a carried byte; bits above the five sources name none (log entry 10). -/
def toSources (x : BitVec 8) : ReloadSet := x.setWidth 5

/-- The channels of a set, lowest first. -/
def membersOf (x : ChannelSet) : List ChannelId :=
  (List.finRange 12).filter fun c => x.getLsbD c.val

/-- The set of channels with a property. -/
def channelsWhere (p : ChannelId → Bool) : ChannelSet :=
  (List.finRange 12).foldl (fun x c => if p c then x ||| (1#12 <<< c.val) else x) 0

/-- A purge level's code (R197). -/
def toLevel : Nat → Option Level
  | 0 => some .light
  | 1 => some .heavy
  | _ => none

/-- R2: the three tolerances as clamped, each to the result of the one before. -/
structure Tolerances where
  tmax : Nat
  tmean : Nat
  twarn : Nat
deriving DecidableEq, Repr

def clampTolerances (tmax tmean twarn : Nat) : Tolerances :=
  let m := clamp 10 2000 tmax
  let a := clamp 10 m tmean
  { tmax := m, tmean := a, twarn := clamp 0 a twarn }

/-- R2: the hold threshold as clamped. -/
def clampThreshold (k : Nat) : Nat := clamp 1 7 k

/-- R4, check 4, on the size. -/
def sizeOk (n : Nat) : Bool := within 1 9999 n
/-- R4, check 4, on the media class. -/
def classOk (m : Nat) : Bool := within 1 255 m

end Sys2Proof.Machine
end

