-- ==== Sys2Proof/Machine/Flags.lean ====
section
/-! DEFINITION. Every condition the rules test and every line the part drives from its records: what counts
as unclosed, started or granted, the reservation, the holds' inputs, when calibration is due, the buffers'
free space, and ROOM, REPLY and ATTN. -/

namespace Sys2Proof.Machine

open Sys2Proof

/-! ## Tickets -/

/-- 2.2: ADMITTED, PRINTING, CANCELLING or TRAVELLING. -/
def TicketState.unclosed : TicketState → Bool
  | .admitted | .printing | .cancelling | .travelling => true
  | .closedGood | .closedSpoiled => false

/-- In the path queue (2.2). -/
def TicketState.started : TicketState → Bool
  | .printing | .cancelling | .travelling => true
  | _ => false

/-- The states whose L − fed counts in the reservation (R112). -/
def TicketState.reserves : TicketState → Bool
  | .admitted | .printing | .cancelling => true
  | _ => false

/-- A ticket has received at least one GRANT where a swath of it has been reported or is outstanding
(R30, R131, R133). -/
def Ticket.granted (k : Ticket) : Bool := k.outstanding || decide (0 < k.swathCount)

/-- Whether no ticket is unclosed (R173). -/
def State.noneUnclosed (s : State) : Bool :=
  (List.finRange 8).all fun t => match s.ticket t with | some k => !k.state.unclosed | none => true

/-- Whether some ticket is PRINTING (R82). -/
def State.somePrinting (s : State) : Bool :=
  (List.finRange 8).any fun t => match s.ticket t with | some k => k.state == .printing | none => false

/-- R26, R121: every ticket in the path queue has fed equal to its L. -/
def State.pathFed (s : State) : Bool :=
  s.desk.path.all fun t => match s.ticket t with | some k => k.fed == k.l | none => true

/-- R112: the sum of L − fed over the roll's ADMITTED, PRINTING and CANCELLING tickets. -/
def State.reservation (s : State) (r : RollId) : Nat :=
  (List.finRange 8).foldl
    (fun sum t => match s.ticket t with
      | some k => if k.roll = r && k.state.reserves then sum + (k.l - k.fed) else sum
      | none => sum) 0

/-! ## Ink -/

/-- The lot code of a channel's FEEDING slot; none where it has no feeding slot (R4). -/
def State.feedingLot (s : State) (c : ChannelId) : Option Nat :=
  match (s.channel c).feed with
  | .fed x => (s.tank (tankOf c x)).record.map (·.lot)
  | _ => none

def Channel.isFed (c : Channel) : Bool :=
  match c.feed with
  | .fed _ => true
  | _ => false

/-- R8, R11: some channel of the set has a FEEDING slot whose lot differs from a present pin. -/
def State.pinsDiffer (s : State) (e : Edition) : Bool :=
  (membersOf e.channels).any fun c =>
    match e.pins[c], s.feedingLot c with
    | some p, some lot => p != lot
    | _, _ => false

/-! ## The media path and the engine -/

/-- The distance d from P to the first stop entry; none where the list is empty (R131). -/
def State.stopDistance (s : State) : Option Nat := s.media.stops.head?.map fun e => e.position - s.media.position

/-- R130: the first stop entry stands at P. -/
def State.stopAtHead (s : State) : Bool := s.stopDistance == some 0

/-- CUTTING or JAMMED: the media hold of the cutter (R130, R144). WORN is none (R144). -/
def CutterState.holdsMedia : CutterState → Bool
  | .cutting _ _ _ | .jammed _ => true
  | .idle | .worn _ => false

/-- R130: MEASURING or CALIBRATING. -/
def SensorState.holdsMedia : SensorState → Bool
  | .measuring | .calibrating => true
  | _ => false

/-- R130: the media holds. -/
def State.mediaHold (s : State) : Bool := s.cutter.state.holdsMedia || s.colour.sensor.holdsMedia

/-- Whether a granted swath or a FEED is outstanding (R105, R106). -/
def EngineLink.mediaBusy (l : EngineLink) : Bool :=
  match l.op with
  | some ⟨.swath _ _, _⟩ | some ⟨.feed _ _, _⟩ => true
  | _ => false

/-- R121: the conditions under which the eject timer runs. -/
def State.ejectDue (s : State) : Bool :=
  s.media.ejectDelay != 0 && s.desk.admitted.isEmpty && !s.desk.path.isEmpty && s.pathFed && !s.media.eject

/-! ## Colour -/

/-- R157: UNCALIBRATED, or IDLE with the count at 50. -/
def Colour.calibrationDue (c : Colour) : Bool :=
  c.sensor == .uncalibrated || (c.sensor == .idle && c.calCount == 50)

/-! ## The command link -/

/-- R186: 1024 less the bytes of the accepted frames and of the frame in receipt. -/
def Link.commandUsed (l : Link) : Nat :=
  (l.command.map (·.length)).sum + (match l.receipt with | some r => r.stored.length | none => 0)
def Link.freeCommand (l : Link) : Nat := 1024 - l.commandUsed
/-- R186: 1024 less the bytes the reply buffer holds. -/
def Link.freeReply (l : Link) : Nat := 1024 - l.reply.length
/-- ROOM (R187). -/
def Link.room (l : Link) : Bool := decide (256 ≤ l.freeCommand)
/-- REPLY (R192). -/
def Link.replyLine (l : Link) : Bool := !l.reply.isEmpty
/-- ATTN (R193). -/
def Notices.attn (n : Notices) : Bool := n.pending &&& n.enabled != 0

/-- R189: no reply in progress, and room for the reply limit plus 6. -/
def Link.ready (l : Link) : Bool := l.inProgress.isNone && decide (l.limit + 6 ≤ l.freeReply)

end Sys2Proof.Machine
end

