-- ==== Sys2Proof/Machine/RunOps.lean ====
section
/-! DEFINITION. The run record's own moves: the idle timers, an entry into a run state, a reload, and the
event that no ticket is unclosed (10_run_states_head_care_and_stopping.md). -/

namespace Sys2Proof.Machine

open Sys2Proof

/-- The run record after an entry into a state: IDLE and PAUSED load both idle timers, DOZE stops the doze
timer alone, every other state stops both (R174). -/
def RunRecord.enter (r : RunRecord) (st : RunState) : RunRecord :=
  match st with
  | .idle | .paused =>
    { r with state := st, dozeTimer := loadSeconds r.dozeLimit, capTimer := loadSeconds r.capLimit }
  | .doze => { r with state := .doze, dozeTimer := none }
  | _ => { r with state := st, dozeTimer := none, capTimer := none }

def State.enterRun (s : State) (st : RunState) : State := s.withRun (s.run.enter st)

/-- The place of a reload source in its set (R174). -/
def ReloadSource.index : ReloadSource → Nat
  | .byAdmission => 0
  | .bySwath => 1
  | .byRequest => 2
  | .byTank => 3
  | .byRoll => 4

/-- R174: an event of a source in the set loads each running timer with its limit; a stopped timer is not
started. -/
def State.reload (s : State) (src : ReloadSource) : State :=
  if s.run.reload.getLsbD src.index then
    s.withRun { s.run with
      dozeTimer := s.run.dozeTimer.bind fun _ => loadSeconds s.run.dozeLimit,
      capTimer := s.run.capTimer.bind fun _ => loadSeconds s.run.capLimit }
  else s

/-- R173: the event that no ticket is unclosed, where that holds. -/
def State.noTicketUnclosed (s : State) : State :=
  if s.noneUnclosed then
    match s.run.state with
    | .running | .paused | .draining => (s.withRun { s.run with resumeWait := false }).enterRun .idle
    | .doze | .capped => s.withRun { s.run with resumeWait := false }
    | _ => s
  else s

/-- An unsent operation leaves the head-care slot (R175). -/
def RunRecord.withdrawUnsent (r : RunRecord) : RunRecord :=
  match r.slot with
  | some ⟨_, false⟩ => { r with slot := none }
  | _ => r

/-- R177: the CAP that CAPPED wants has not been sent. -/
def RunRecord.capUnsent (r : RunRecord) : Bool := r.wanted == some .cap || r.slot == some ⟨.cap, false⟩

/-- R177: the wake level and step. HEAVY with an UNCAP from CAPPED, but where the CAP was not sent; LIGHT
from there and from DOZE. -/
def RunRecord.wakeFrom (r : RunRecord) : Level × WakeStep :=
  if r.state = .capped && !r.capUnsent then (.heavy, .uncap) else (.light, .purge)

/-- R177: the run becomes WAKING. -/
def State.startWake (s : State) : State :=
  s.withRun ({ s.run.withdrawUnsent with wake := some s.run.wakeFrom, wanted := none }.enter .waking)

/-- R176: what an entry into DOZE or CAPPED withdraws and wants. -/
def RunRecord.settleHeads (r : RunRecord) (w : Wanted) : RunRecord :=
  { r.withdrawUnsent with manual := none, wanted := some w, resumeWait := r.resumeWait || r.state == .paused }

end Sys2Proof.Machine
end

