-- ==== Sys2Proof/Machine/TicketOps.lean ====
section
/-! DEFINITION. What passes between the edition table and the admission controller: a number's return, a
cancellation by the part, an edition's holding or closing, its entry into QUALIFY, and a lot change
(chapters 1 and 2). -/

namespace Sys2Proof.Machine

open Sys2Proof

/-! ## Cancellation by the part -/

/-- R14: a number comes back to its edition's return list, and the in-flight count falls by 1. -/
def Edition.giveBack (e : Edition) (n : Nat) : Edition :=
  { e with returns := insertAsc n e.returns, inFlight := e.inFlight - 1 }

/-- The ticket of an ADMITTED slot as a cancellation by the part leaves it (R34, R32). -/
def Ticket.withdrawn (k : Ticket) (cause : SpoilCause) : Ticket :=
  { k with state := .closedSpoiled, spoilCause := some cause, finalCost := some 0, qualifying := false }

/-- R34: a ticket is cancelled by the part while ADMITTED. -/
def State.cancelByPart (s : State) (t : TicketId) (cause : SpoilCause) : State :=
  match s.ticket t with
  | none => s
  | some k =>
    let s := s.modEdition k.edition (·.giveBack k.number)
    let s := s.setTicket t (k.withdrawn cause)
    let s := s.withDesk { s.desk with admitted := s.desk.admitted.erase t }
    (s.raise .ticketClosed).noTicketUnclosed

/-- The ADMITTED tickets of an edition, oldest first. -/
def State.admittedOf (s : State) (i : EditionId) : List TicketId :=
  s.desk.admitted.filter fun t => match s.ticket t with | some k => k.edition == i | none => false

/-- Every ticket of a list is cancelled by the part, in its order. -/
def State.cancelAll (s : State) (ts : List TicketId) (cause : SpoilCause) : State :=
  ts.foldl (fun s t => s.cancelByPart t cause) s

/-- Changes every ticket that is not FREE. -/
def State.modTickets (s : State) (f : Ticket → Ticket) : State :=
  (List.finRange 8).foldl (fun s t => s.modTicket t f) s

/-- R33: an edition enters HELD or becomes CLOSED. -/
def State.stopEdition (s : State) (i : EditionId) (cause : SpoilCause) : State :=
  (s.cancelAll (s.admittedOf i) cause).modTickets fun k =>
    if k.edition = i && k.state.started then { k with qualifying := false } else k

/-! ## Entry into QUALIFY -/

/-- R31: the oldest ADMITTED ticket as the marking leaves it, with the edition's current parameters. -/
def Ticket.marked (k : Ticket) (e : Edition) (patches : Nat) : Ticket :=
  { k with
    refset := e.refset, patches := patches, tmax := e.tmax, tmean := e.tmean, twarn := e.twarn,
    qualifying := true, lp := if k.lp = 0 then 20 else k.lp, l := if k.lp = 0 then k.l + 20 else k.l }

/-- R31: whether the marked ticket still fits. -/
def State.markFits (s : State) (k : Ticket) : Bool :=
  match s.roll k.roll with
  | none => false
  | some r =>
    decide (k.l ≤ 30000) && decide (k.patches * 25 + 40 ≤ r.width) &&
      decide (s.reservation k.roll + 750 ≤ r.remaining)

/-- R31: the oldest ADMITTED ticket is marked qualifying, or cancelled where it no longer fits. -/
def State.markQualifying (s : State) (t : TicketId) (e : Edition) (patches : Nat) : State :=
  match s.ticket t with
  | none => s
  | some k =>
    let k' := k.marked e patches
    let s := s.setTicket t k'
    if s.markFits k' then s else s.cancelByPart t .qualify

/-- R31: the admission controller is handed an edition's entry into QUALIFY. -/
def State.qualifyTickets (s : State) (i : EditionId) (e : Edition) : State :=
  match e.refset, s.admittedOf i with
  | none, ts => s.cancelAll ts .qualify
  | some _, [] => s
  | some r, t :: ts => (s.cancelAll ts .qualify).markQualifying t e (s.refset r).targets.length

/-- R21: an edition enters QUALIFY. -/
def State.enterQualify (s : State) (i : EditionId) : State :=
  match s.edition i with
  | none => s
  | some e =>
    let e' := { e with state := .qualify, requalify := false }
    ((s.setEdition i e').raise .editionQualify).qualifyTickets i e'

/-! ## Feeding reports -/

/-- R30: what a lot change does to one ticket of the edition. -/
def Ticket.lotChanged (k : Ticket) : Ticket :=
  let k := if k.state = .printing && k.granted then { k with changeSeen := true } else k
  if k.qualifying && k.granted && (k.state == .printing || k.state == .travelling) then
    { k with lotMixed := true }
  else k

/-- R30: a lot change for an edition's started tickets. -/
def State.lotChange (s : State) (i : EditionId) : State :=
  s.modTickets fun k => if k.edition = i then k.lotChanged else k

/-- R20: a feeding report applied to one edition. -/
def State.reportTo (s : State) (c : ChannelId) (lot : Nat) (i : EditionId) : State :=
  match s.edition i with
  | none => s
  | some e =>
    if !e.channels.getLsbD c.val then s
    else match e.state, e.pins[c] with
      | .complete, _ | .closed, _ => s
      | _, none => s.setEdition i { e with pins := put e.pins c (some lot) }
      | st, some p =>
        if p = lot then s
        else match st with
          | .opened => (s.enterQualify i).lotChange i
          | .qualify => s.lotChange i
          | _ => s.setEdition i { e with requalify := true }

/-- R20: a feeding report, applied to every edition that is not FREE, in the order of their slots (DESIGN
CHOICE, log entry 45: the manual gives none). -/
def State.feedingReport (s : State) (c : ChannelId) (lot : Nat) : State :=
  (List.finRange 64).foldl (fun s i => s.reportTo c lot i) s

end Sys2Proof.Machine
end

