-- ==== Sys2Proof/Machine/MediaOps.lean ====
section
/-! DEFINITION. The stop list, the start of a ticket and its placement on the media, the fed length's effect
on the active roll, and the eject's conditions (06_rolls_and_the_media_path.md; R26, R27). -/

namespace Sys2Proof.Machine

open Sys2Proof

/-! ## The stop list -/

/-- R117: an action joins the entry at its position, or a new entry at its place in the order. -/
def enterStop (pos : Nat) (a : StopAction) : List StopEntry → List StopEntry
  | [] => [{ position := pos, actions := [a] }]
  | e :: es =>
    if pos = e.position then { e with actions := e.actions ++ [a] } :: es
    else if pos < e.position then { position := pos, actions := [a] } :: e :: es
    else e :: enterStop pos a es

/-- R118, R119: the actions with a property leave the list, and an entry left with none leaves it too. -/
def withdrawStops (p : StopAction → Bool) (es : List StopEntry) : List StopEntry :=
  es.filterMap fun e =>
    let rest := e.actions.filter (fun a => !p a)
    if rest.isEmpty then none else some { e with actions := rest }

/-- R114: a ticket's actions, with their positions, for a start at S against the old path end. -/
def Ticket.stopActions (k : Ticket) (id : TicketId) (s : Nat) (oldEnd : Int) (withPatch : Bool) :
    List (Nat × StopAction) :=
  (if oldEnd < (s : Int) then [(s + 750, { kind := .leadTrim ((s : Int) - oldEnd).toNat, ticket := id, handed := false })]
    else []) ++
  (if withPatch then [(s + k.lm + k.li + 10 + 450, { kind := .patchRead, ticket := id, handed := false })] else []) ++
  (if k.trim then [(s + k.lm + k.li + 750, { kind := .separate, ticket := id, handed := false })] else []) ++
  [(s + k.l + 750, { kind := .trailCut, ticket := id, handed := false })]

/-- R114, R115: a ticket is placed at the present P against an old path end: S, E and its stop actions. -/
def State.placeTicket (s : State) (t : TicketId) (oldEnd : Int) : State :=
  match s.ticket t with
  | none => s
  | some k =>
    let p := s.media.position
    let acts := k.stopActions t p oldEnd (k.lp == 20 && k.state == .printing)
    let s := s.setTicket t { k with start := some p, oldEnd := oldEnd }
    s.withMedia { s.media with
      pathEnd := (p : Int) + k.l,
      stops := acts.foldl (fun es a => enterStop a.1 a.2 es) s.media.stops }

/-! ## Starting -/

/-- R27: the head of the admitted queue starts. -/
def State.startTicket (s : State) (t : TicketId) : State :=
  let s := s.withDesk { s.desk with admitted := s.desk.admitted.erase t, path := s.desk.path ++ [t] }
  let s := s.modTicket t fun k => { k with state := .printing }
  let s := s.placeTicket t s.media.pathEnd
  match s.ticket t with
  | none => s
  | some k => s.emit (.engine (.ticketStart t k.lm k.li k.lp k.lt k.patches))

/-- R26: the start test. -/
def State.startTest (s : State) : State :=
  match s.desk.admitted with
  | [] => s
  | t :: _ =>
    if s.run.state = .running && decide (s.desk.path.length < 6) && s.pathFed then s.startTicket t else s

/-- R173: an entry into RUNNING is handed to the admission controller, which makes its start test. -/
def State.enterRunning (s : State) : State := (s.enterRun .running).startTest

/-- R182: in a drain, once every ticket in the path has fed its L, an eject request is handed, though ADMITTED
tickets wait and reserve media; drains in succession can take R113's slack below 0 (DEDUCED, log entry 47). -/
def State.drainEject (s : State) : State :=
  if s.run.state = .draining && !s.desk.path.isEmpty && s.pathFed then s.withMedia { s.media with eject := true }
  else s

/-! ## The roll -/

/-- R107, R110: a fed length lowers the ACTIVE roll's remaining length, which may raise ROLL_LOW. -/
def State.feedRoll (s : State) (f : Nat) : State :=
  match s.activeRoll with
  | none => s
  | some r =>
    match s.roll r with
    | none => s
    | some x =>
      let s' := s.setRoll r (some { x with remaining := x.remaining - f })
      s'.raiseIf (decide (x.threshold < x.remaining) && decide (x.remaining - f ≤ x.threshold)) .rollLow

/-! ## The eject timer -/

/-- R121: at the end of an event, the eject timer is loaded where its conditions became true in it, and
stopped where one of them is false. `before` is the state the event found. -/
def State.ejectTest (s before : State) : State :=
  if !s.ejectDue then s.withMedia { s.media with ejectTimer := none }
  else if !before.ejectDue then s.withMedia { s.media with ejectTimer := loadSeconds s.media.ejectDelay }
  else s

end Sys2Proof.Machine
end

