-- ==== Sys2Proof/Machine/CostOps.lean ====
section
/-! DEFINITION. Charges to a ticket and to the house account, the fees, the final cost, and the closing of a
ticket with the edition's judgement of it (R16 to R19, R38, R51 to R59, R61). -/

namespace Sys2Proof.Machine

open Sys2Proof

/-! ## Charges -/

/-- R52: an addition to a ticket's accumulator. -/
def Ticket.charge (k : Ticket) (micro : Nat) : Ticket :=
  { k with acc := satAdd (top 64) k.acc micro, saturated := k.saturated || decide (top 64 < k.acc + micro) }

def State.chargeTicket (s : State) (t : TicketId) (micro : Nat) : State := s.modTicket t (·.charge micro)

/-- R61: an addition to the house account. -/
def State.chargeHouse (s : State) (micro : Nat) : State :=
  s.withCosting { s.costing with
    house := satAdd (top 64) s.costing.house micro,
    houseSaturated := s.costing.houseSaturated || decide (top 64 < s.costing.house + micro) }

/-- R55, R56: a fee in cu charged to a ticket. -/
def State.chargeFee (s : State) (t : TicketId) (cu : Nat) : State :=
  s.modTicket t fun k => { k with fees := k.fees + cu }

/-- Width times price of a roll: µcu per mm fed (R53). -/
def State.mediaPrice (s : State) (r : RollId) : Nat :=
  match s.roll r with
  | some x => x.width * x.price
  | none => 0

/-- R54: the price per mm of the ACTIVE roll. -/
def State.activePrice (s : State) : Nat :=
  match s.activeRoll with
  | some r => s.mediaPrice r
  | none => 0

/-- R57: the accumulator rounded once to cu, and the fees. -/
def Ticket.cost (k : Ticket) : Nat := roundCu k.acc + k.fees

/-! ## The edition's judgement -/

/-- The outcome of a trail-cut close (R18). -/
inductive Outcome where
  | good (unverified : Bool)
  | spoiled (cause : SpoilCause)
deriving DecidableEq, Repr

/-- R18: the outcome of a trail-cut close, from whether the ticket counts as qualifying, its verdict and its
strict flag. -/
def judge (qualifying : Bool) (v : Verdict) (strict : Bool) : Outcome :=
  match v with
  | .none | .pass | .warn => .good false
  | .fail => .spoiled .colour
  | .unverified => if qualifying || strict then .spoiled .unverified else .good true

/-- R18: the pins after a qualifying pass. -/
def State.passPins (s : State) (e : Edition) : Vector (Option Nat) 12 :=
  Vector.ofFn fun c =>
    if e.channels.getLsbD c.val then
      match s.feedingLot c with
      | some lot => some lot
      | none => e.pins[c]
    else e.pins[c]

/-- R18: consecutive fails after a colour failure (R1: saturating). -/
def Edition.fail (e : Edition) : Edition := { e with fails := satAdd 255 e.fails 1 }

/-- R18: the edition's pins, state and consecutive fails after a trail-cut close, the entry into HELD
apart. -/
def State.judgedEdition (s : State) (e : Edition) (qualifying : Bool) (v : Verdict) (lotMixed : Bool) : Edition :=
  match v with
  | .pass | .warn =>
    if qualifying && !lotMixed then { e with fails := 0, state := .opened, pins := s.passPins e }
    else { e with fails := 0 }
  | .fail => e.fail
  | .none | .unverified => e

/-- R19: whether a trail-cut close with this verdict makes the edition enter HELD by failure; `e` holds the
consecutive fails after it. -/
def heldByFailure (e : Edition) (qualifying : Bool) (v : Verdict) : Bool :=
  v == .fail && (qualifying || ((e.state == .opened || e.state == .qualify) && decide (e.holdThreshold ≤ e.fails)))

/-- R16: a ticket that closes good, in its edition's record; COMPLETE apart. -/
def Edition.goodClose (e : Edition) (k : Ticket) (cost : Nat) (unverified : Bool) : Edition :=
  { e with
    good := e.good + 1, inFlight := e.inFlight - 1,
    unverified := e.unverified + (if unverified then 1 else 0),
    goodCost := satAdd (top 48) e.goodCost cost,
    goodInk := satAdd (top 48) e.goodInk ((List.finRange 12).foldl (fun n c => n + k.ink[c]) 0),
    goodMedia := satAdd (top 32) e.goodMedia k.fed }

/-- R17: a ticket that closes spoiled, in its edition's record. -/
def Edition.spoiledClose (e : Edition) (number cost : Nat) : Edition :=
  { e.giveBack number with
    spoiled := satAdd 65535 e.spoiled 1, spoilCost := satAdd (top 48) e.spoilCost cost }

/-- R16: the edition becomes COMPLETE where its good count now equals N. -/
def State.completeTest (s : State) (i : EditionId) : State :=
  match s.edition i with
  | none => s
  | some e =>
    if e.good = e.size && (e.state == .opened || e.state == .qualify || e.state == .held) then
      (s.setEdition i { e with state := .complete, requalify := false }).raise .editionComplete
    else s

/-- R19: the edition enters HELD by failure. -/
def State.holdByFailure (s : State) (i : EditionId) : State :=
  match s.edition i with
  | none => s
  | some e =>
    ((s.setEdition i { e with state := .held, requalify := e.requalify || e.state == .qualify }).raise
      .editionHeld).stopEdition i .held

/-- R16, R18, R19: the edition takes a close at the trail cut of a ticket that is not CANCELLING. -/
def State.editionJudges (s : State) (k : Ticket) (cost : Nat) : State × Outcome :=
  match s.edition k.edition with
  | none => (s, judge false k.verdict k.strict)
  | some e =>
    let qualifying := k.qualifying && e.state == .qualify
    let e' := s.judgedEdition e qualifying k.verdict k.lotMixed
    match judge qualifying k.verdict k.strict with
    | .good u => ((s.setEdition k.edition (e'.goodClose k cost u)).completeTest k.edition, .good u)
    | .spoiled c =>
      let s := s.setEdition k.edition (e'.spoiledClose k.number cost)
      (if heldByFailure e' qualifying k.verdict then s.holdByFailure k.edition else s, .spoiled c)

/-! ## Closing -/

/-- R182: the last close of a drain. -/
def State.drainPause (s : State) : State :=
  if s.run.state = .draining && s.desk.path.isEmpty && !s.desk.admitted.isEmpty then
    (s.withRun { s.run with resumeWait := true }).enterRun .paused
  else s

/-- R38, steps 3 to 6: a ticket's outcome and final cost are recorded, and its id leaves the path queue. -/
def State.recordClose (s : State) (t : TicketId) (o : Outcome) (cost : Nat) : State :=
  let s := s.modTicket t fun k =>
    match o with
    | .good u => { k with state := .closedGood, unverified := u, spoilCause := none, finalCost := some cost,
                          qualifying := false, pauseTimer := none }
    | .spoiled c => { k with state := .closedSpoiled, spoilCause := some c, finalCost := some cost,
                             qualifying := false, pauseTimer := none }
  let s := s.withDesk { s.desk with path := s.desk.path.erase t }
  let s := if s.desk.path.isEmpty then s.withMedia { s.media with eject := false } else s
  ((s.raise .ticketClosed).drainPause.startTest).noTicketUnclosed

/-- R38: a started ticket closes at its trail cut. A CANCELLING ticket closes spoiled with the cause it
carries. -/
def State.closeAtTrail (s : State) (t : TicketId) : State :=
  match s.ticket t with
  | none => s
  | some k =>
    if k.state = .cancelling then
      let c := k.spoilCause.getD .cancelled
      (s.modEdition k.edition (·.spoiledClose k.number k.cost)).recordClose t (.spoiled c) k.cost
    else
      let r := s.editionJudges k k.cost
      r.1.recordClose t r.2 k.cost

/-- R39: a started ticket closes spoiled with the stop cause, a CANCELLING one with its own. -/
def State.closeAtStop (s : State) (t : TicketId) (cause : SpoilCause) : State :=
  match s.ticket t with
  | none => s
  | some k =>
    let c := if k.state = .cancelling then k.spoilCause.getD cause else cause
    (s.modEdition k.edition (·.spoiledClose k.number k.cost)).recordClose t (.spoiled c) k.cost

/-- R40, R58: the final cost of a ticket closed by a stop is computed again, and its increase raises the
edition's spoil cost. -/
def State.recost (s : State) (t : TicketId) : State :=
  match s.ticket t with
  | none => s
  | some k =>
    if k.state = .closedSpoiled then
      let rise := k.cost - k.finalCost.getD 0
      (s.setTicket t { k with finalCost := some k.cost }).modEdition k.edition fun e =>
        { e with spoilCost := satAdd (top 48) e.spoilCost rise }
    else s

end Sys2Proof.Machine
end

