-- ==== Sys2Proof/Config.lean ====
section
/-! DEFINITION. What the manual leaves to the implementation, as constants without a body: nothing proved of
this model can rest on their value. -/

namespace Sys2Proof.Config

open Sys2Proof

/-- The bytes of an OK reply's items where 12 lays out no record: "its field widths are not fixed by this
manual" (log entry 3). -/
opaque replyBytes : Sys2Proof.Machine.ReplyBody → List Byte

/-- Bytes 0..17 of the image a WRITE is built from where the slot has no image copy; R91 says that no WRITE
finds that (log entry 4). -/
opaque absentImage : TankId → List Byte

end Sys2Proof.Config
end

