-- ==== Sys2Proof/Machine/Records.lean ====
section
/-! DEFINITION. The bytes of what leaves the part: the edition record (12.2), the ticket statement (12.3),
the frames to the tags (12.4), the engine and the sensor head (12.5), the reply bodies, and the status
codes (12.1). -/

namespace Sys2Proof.Machine

open Sys2Proof

/-- A flags byte, bit 0 first. -/
def flagsByte (bits : List Bool) : Nat := bits.foldr (fun b n => 2 * n + (if b then 1 else 0)) 0

/-- The state byte of an edition record (12.2). -/
def EditionState.code : EditionState → Nat
  | .opened => 1
  | .qualify => 2
  | .held => 3
  | .complete => 4
  | .closed => 5

/-- A field carried by each of the channels 0..11, in so many bytes (12.2, 12.3). -/
def perChannel (k : Nat) (f : ChannelId → Nat) : List Byte :=
  (List.finRange 12).flatMap fun c => toBytes k (f c)

/-- The 118 bytes of an edition record (12.2). -/
def Edition.bytes (e : Edition) : List Byte :=
  toBytes 1 e.state.code ++ toBytes 4 e.label ++ toBytes 2 e.size ++ toBytes 2 e.next ++ toBytes 2 e.good ++
  toBytes 2 e.spoiled ++ toBytes 2 e.unverified ++ toBytes 1 e.returns.length ++
  ((List.range 8).flatMap fun k => toBytes 2 (e.returns[k]?.getD 0)) ++
  toBytes 1 e.inFlight ++ toBytes 1 e.mediaClass ++ toBytes 2 e.channels.toNat ++
  toBytes 2 (channelsWhere fun c => e.pins[c].isSome).toNat ++
  perChannel 4 (fun c => e.pins[c].getD 0) ++
  toBytes 1 (flagsByte [e.requalify, e.strict, e.trim, e.locked, e.refset.isSome]) ++
  toBytes 1 (match e.refset with | some r => r.val | none => 255) ++
  toBytes 2 e.tmax ++ toBytes 2 e.tmean ++ toBytes 2 e.twarn ++ toBytes 1 e.holdThreshold ++
  toBytes 1 e.fails ++ toBytes 6 e.goodCost ++ toBytes 6 e.spoilCost ++ toBytes 6 e.goodInk ++
  toBytes 4 e.goodMedia

/-- The state byte of a ticket statement (12.3). -/
def TicketState.code : TicketState → Nat
  | .admitted => 1
  | .printing => 2
  | .cancelling => 3
  | .travelling => 4
  | .closedGood => 5
  | .closedSpoiled => 6

/-- The verdict byte (12.3). -/
def Verdict.code : Verdict → Nat
  | .none => 0
  | .pass => 1
  | .warn => 2
  | .fail => 3
  | .unverified => 4

/-- The spoil-cause byte (12.3). -/
def SpoilCause.code : SpoilCause → Nat
  | .colour => 1
  | .unverified => 2
  | .rollEnd => 3
  | .stopped => 4
  | .engine => 5
  | .pause => 6
  | .cancelled => 7
  | .held => 8
  | .qualify => 9

/-- The 107 bytes of a ticket statement (12.3). -/
def Ticket.bytes (id : TicketId) (k : Ticket) : List Byte :=
  toBytes 1 k.state.code ++ toBytes 1 id.val ++ toBytes 2 k.serial ++ toBytes 1 k.edition.val ++
  toBytes 2 k.number ++ toBytes 1 k.roll.val ++ toBytes 2 k.lm ++ toBytes 2 k.li ++ toBytes 1 k.lp ++
  toBytes 2 k.lt ++ toBytes 2 k.l ++ toBytes 4 (k.start.getD 0xFFFFFFFF) ++ toBytes 2 k.fed ++
  toBytes 1 (flagsByte [k.refset.isSome, k.strict, k.trim, k.qualifying]) ++
  toBytes 1 (match k.refset with | some r => r.val | none => 255) ++ toBytes 1 k.patches ++
  toBytes 2 k.tmax ++ toBytes 2 k.tmean ++ toBytes 2 k.twarn ++ toBytes 2 k.swathCount ++
  perChannel 4 (fun c => k.ink[c]) ++ toBytes 8 k.acc ++ toBytes 4 k.fees ++
  toBytes 1 (flagsByte [k.lotMixed, k.overdraw, k.unverified, k.saturated, k.countClamped, k.outstanding]) ++
  toBytes 1 k.verdict.code ++ toBytes 2 (k.deMax.getD 0xFFFF) ++ toBytes 2 (k.deMean.getD 0xFFFF) ++
  toBytes 1 (match k.spoilCause with | some c => c.code | none => 0) ++
  toBytes 6 (k.finalCost.getD 0xFFFFFFFFFFFF)

/-- The body of a reply: the laid-out records of 12.2 and 12.3, an empty body, or items whose widths the
manual does not fix (log entry 3). -/
def ReplyBody.bytes : ReplyBody → List Byte
  | .empty => []
  | .edition none => [0]
  | .edition (some e) => e.bytes
  | .statement _ none => [0]
  | .statement id (some k) => k.bytes id
  | b => Config.replyBytes b

/-- The status codes (12.1). -/
def Status.code : Status → Nat
  | .ok => 0
  | .badSlot => 1
  | .badState => 2
  | .range => 3
  | .locked => 4
  | .inUse => 5
  | .busy => 6
  | .noNumber => 7
  | .noTicket => 8
  | .noMedia => 9
  | .wrongMedia => 10
  | .tooNarrow => 11
  | .qualifyBusy => 12
  | .duplicate => 13
  | .noRefset => 14
  | .unknown => 15

/-! ## Tag bus frames (12.4) -/

/-- A READ_IMAGE request frame. -/
def readFrame (slot : TankId) : List Byte := sealed [BitVec.ofNat 8 slot.val, 0x01]

/-- R92: the image copy with its fill field, bytes 8..11, replaced. -/
def imageWithFill (image : List Byte) (fill : Nat) : List Byte := image.take 8 ++ toBytes 4 fill ++ image.drop 12

/-- R92: a WRITE_FILL request frame: the fill, and the CRC-16 of the image with that fill. -/
def writeFrame (slot : TankId) (image : List Byte) (fill : Nat) : List Byte :=
  sealed ([BitVec.ofNat 8 slot.val, 0x02] ++ toBytes 4 fill ++ toBytes 2 (crc16 (imageWithFill image fill)).toNat)

/-! ## Engine and sensor link frames (12.5) -/

/-- A frame of either link: the length of the whole frame, the code, the body and the CRC-8. -/
def linkFrame (code : Nat) (body : List Byte) : List Byte :=
  sealed (toBytes 1 (body.length + 3) ++ toBytes 1 code ++ body)

/-- The frame of a message to the engine. -/
def EngineMessage.frame : EngineMessage → List Byte
  | .ticketStart t lm li lp lt n =>
    linkFrame 0x01 (toBytes 1 t.val ++ toBytes 2 lm ++ toBytes 2 li ++ toBytes 1 lp ++ toBytes 2 lt ++ toBytes 1 n)
  | .grant t a => linkFrame 0x02 (toBytes 1 t.val ++ toBytes 1 a)
  | .deny t => linkFrame 0x03 (toBytes 1 t.val)
  | .feed d => linkFrame 0x04 (toBytes 2 d)
  | .purge set v =>
    linkFrame 0x05 (toBytes 2 set.toNat ++ perChannel 4 (fun c => if set.getLsbD c.val then v[c] else 0))
  | .park => linkFrame 0x06 []
  | .cap => linkFrame 0x07 []
  | .uncap => linkFrame 0x08 []
  | .abort => linkFrame 0x09 []

/-- The frame of a message to the sensor head; the pitch is 25 mm (9.2). -/
def SensorMessage.frame : SensorMessage → List Byte
  | .calibrate x => linkFrame 0x01 (toBytes 1 x)
  | .measure x n => linkFrame 0x02 (toBytes 1 x ++ toBytes 1 n ++ toBytes 1 25)

end Sys2Proof.Machine
end

