-- ==== Sys2Proof/Machine/TagOps.lean ====
section
/-! DEFINITION. The tag bus controller's operations: queueing an operation, choosing the next one for the
bus, sending and resending its frame, and judging an answer (05_the_tank_tag_bus.md). -/

namespace Sys2Proof.Machine

open Sys2Proof

/-- R96: what is pending at a slot once an operation is queued behind what was. -/
def coalesce : Option TagOp → TagOp → TagOp
  | some .read, _ => .read
  | _, op => op

/-- R96: an operation joins the pending set at its slot. -/
def State.queueTag (s : State) (t : TankId) (op : TagOp) : State :=
  s.withTags { s.tags with waiting := put s.tags.waiting t (some (coalesce s.tags.waiting[t] op)) }

/-- The first slot after the service pointer, wrapping, at which an operation is pending (R98). -/
def TagBus.nextSlot (b : TagBus) : Option TankId :=
  ((List.finRange 24).map fun k => (⟨(b.pointer.val + 1 + k.val) % 24, by omega⟩ : TankId)).find? fun t =>
    b.waiting[t].isSome

/-- R92, R98: the request frame of a transaction. -/
def State.tagFrame (s : State) (tx : TagTransaction) : List Byte :=
  match tx.op with
  | .read => readFrame tx.slot
  | .write fill => writeFrame tx.slot (s.tags.images[tx.slot].getD (Config.absentImage tx.slot)) fill

/-- R98: while the phase is IDLE and an operation is pending, the next one is taken onto the bus. -/
def State.serveTags (s : State) : State :=
  match s.tags.phase, s.tags.nextSlot with
  | .idle, some t =>
    match s.tags.waiting[t] with
    | some op =>
      let tx : TagTransaction := { slot := t, op := op, retry := false }
      (s.withTags { s.tags with phase := .request tx, waiting := put s.tags.waiting t none, pointer := t }).emit
        (.tag (s.tagFrame tx))
    | none => s
  | _, _ => s

/-- R95: the same request frame is sent again, as attempt 2. -/
def State.retryTag (s : State) (tx : TagTransaction) : State :=
  let tx' := { tx with retry := true }
  (s.withTags { s.tags with phase := .request tx' }).emit (.tag (s.tagFrame tx'))

/-- What an answer frame amounts to (R90). -/
inductive TagVerdict where
  | image (bytes : List Byte)
  | written
  | failure
  | unknownCommand
  | refused
deriving DecidableEq, Repr

/-- R90: a whole answer frame judged against its transaction. An answer to another command, and an error
report of another length than its own, are frame failures too (log entry 14). -/
def judgeAnswer (tx : TagTransaction) (f : List Byte) : TagVerdict :=
  if !sealOk f || field f 0 1 != tx.slot.val then .failure
  else match field f 1 1, tx.op with
    | 0x01, .read => if f.length = 23 then .image ((f.drop 2).take 20) else .failure
    | 0x02, .write fill => if f.length = 7 && field f 2 4 == fill then .written else .failure
    | 0xEE, op =>
      if f.length ≠ 4 then .failure
      else match field f 2 1, op with
        | 0x02, _ => .unknownCommand
        | 0x03, .write _ => .refused
        | 0x04, .write _ => .refused
        | _, _ => .failure
    | _, _ => .failure

end Sys2Proof.Machine
end

