-- ==== Sys2Proof/Machine/TankOps.lean ====
section
/-! DEFINITION. The ink supply controller's operations: write-backs, the switchover test, its start and its
abandonment, a channel losing its feeding slot, and debits (04_ink_channels_and_tanks.md). -/

namespace Sys2Proof.Machine

open Sys2Proof

/-! ## Write-backs -/

/-- R80: a write-back is queued for a slot, carrying its fill; the write mark becomes that fill. -/
def State.writeBack (s : State) (t : TankId) : State :=
  match (s.tank t).record with
  | none => s
  | some r => (s.setTank t ((s.tank t).modRecord fun r => { r with writeMark := r.fill })).queueTag t (.write r.fill)

/-- R80: a write-back where the fill differs from the last-written fill or tag-stale is set. -/
def State.writeBackIfNeeded (s : State) (t : TankId) : State :=
  match (s.tank t).record with
  | none => s
  | some r => if r.fill ≠ r.lastWritten || r.stale then s.writeBack t else s

/-- R80: entry into CAPPED, and the stop-now treatment: every FEEDING slot. -/
def State.writeBackFeeding (s : State) : State :=
  (List.finRange 24).foldl
    (fun s t => match s.tank t with
      | .held .feeding _ => s.writeBackIfNeeded t
      | _ => s) s

/-! ## Switchover -/

/-- R70, R82: a STANDBY slot without release pending. -/
def TankSlot.isCandidate : TankSlot → Bool
  | .held .standby r => !r.releasePending
  | _ => false

/-- R71: a switchover of a channel to an incoming slot starts. -/
def State.startSwitch (s : State) (c : ChannelId) (x : Side) : State :=
  s.setChannel c { s.channel c with feed := .switching x 1500, valve := x }

/-- R70: the switchover test of a channel. -/
def State.switchTest (s : State) (c : ChannelId) : State :=
  match (s.channel c).feed with
  | .switching _ _ => s
  | .starved =>
    if (s.tank (tankOf c .a)).isCandidate then s.startSwitch c .a
    else if (s.tank (tankOf c .b)).isCandidate then s.startSwitch c .b
    else s
  | .fed x =>
    match (s.tank (tankOf c x)).record with
    | none => s
    | some r =>
      if decide (r.fill ≤ mlToNl (s.channel c).level) && (s.tank (tankOf c x.other)).isCandidate then
        s.startSwitch c x.other
      else s

/-- The state of a slot that is switched away, run dry or released from feeding (R72, R73, R82). -/
def TankRecord.awayState (r : TankRecord) : HeldState := if r.fill = 0 then .depleted else .spent

/-- R72, R73: the outgoing slot, where it is still FEEDING, becomes SPENT or DEPLETED, with a write-back. -/
def State.leaveFeeding (s : State) (t : TankId) : State :=
  match s.tank t with
  | .held .feeding r => (s.setTank t (.held r.awayState r)).writeBackIfNeeded t
  | _ => s

def Channel.isStarved (c : Channel) : Bool :=
  match c.feed with
  | .starved => true
  | _ => false

/-- R78, R82: a FED channel loses its feeding slot; the switchover test is made as for a STARVED channel, and
where it does not hold the channel becomes STARVED. -/
def State.loseFeeding (s : State) (c : ChannelId) : State :=
  let s := (s.setChannel c { s.channel c with feed := .starved }).switchTest c
  s.raiseIf (s.channel c).isStarved .channelStarved

/-- R73: a switchover that loses its incoming slot is abandoned. The switchover test then follows, as the
channel has become STARVED (R70; log entry 15). -/
def State.abandonSwitch (s : State) (c : ChannelId) : State :=
  match (s.channel c).feed with
  | .switching x _ =>
    let s := s.setChannel c { s.channel c with feed := .starved }
    ((s.leaveFeeding (tankOf c x.other)).raise .channelStarved).switchTest c
  | _ => s

/-! ## Debits -/

/-- R74, R75: a ticket's ink rises by the debit, and OVERDRAW is set where some of it is overdraw. -/
def State.inkTicket (s : State) (c : ChannelId) (t : Option TicketId) (d beyond : Nat) : State :=
  match t with
  | none => s
  | some t =>
    s.modTicket t fun k =>
      { k with ink := put k.ink c (satAdd (top 32) k.ink[c] d), overdraw := k.overdraw || decide (0 < beyond) }

/-- R74, R75: a channel's overdraw total rises. -/
def State.overdrawChannel (s : State) (c : ChannelId) (beyond : Nat) : State :=
  s.setChannel c { s.channel c with overdraw := satAdd (top 48) (s.channel c).overdraw beyond }

/-- R77: a FED channel whose feeding slot stands at fill 0 runs dry. -/
def State.runDry (s : State) (c : ChannelId) : State :=
  match (s.channel c).feed with
  | .fed x =>
    match s.tank (tankOf c x) with
    | .held st r =>
      if r.fill = 0 then
        let s := (s.setTank (tankOf c x) (.held (if st = .feeding then .depleted else st) r)).writeBackIfNeeded
          (tankOf c x)
        (s.setChannel c { s.channel c with feed := .starved }).raise .channelStarved
      else s
    | _ => s
  | _ => s

/-- R74: what follows the split, in its order: the reserve notice, the write-back test, the switchover test
and the running-dry rule; `before` is the fill before the debit. -/
def State.afterDebit (s : State) (c : ChannelId) (slot : TankId) (before : Nat) : State :=
  match (s.tank slot).record with
  | none => s
  | some r =>
    let floor := mlToNl (s.channel c).floor
    let s := s.raiseIf (decide (floor < before) && decide (r.fill ≤ floor)) .channelReserve
    let s := if r.fill + 10000000 ≤ r.writeMark then s.writeBack slot else s
    (s.switchTest c).runDry c

/-- R74, R75: a debit of d nL of a channel, with its ticket where it has one, and its price in µcu (R51). -/
def State.debit (s : State) (c : ChannelId) (d : Nat) (t : Option TicketId) : State × Nat :=
  let ch := s.channel c
  match ch.feed with
  | .fed x =>
    match s.tank (tankOf c x) with
    | .held st r =>
      let tankPart := min d r.fill
      let beyond := d - tankPart
      let s := s.setTank (tankOf c x) (.held st { r with fill := r.fill - tankPart })
      let s := (s.overdrawChannel c beyond).inkTicket c t d beyond
      (s.afterDebit c (tankOf c x) r.fill, tankPart * r.price + beyond * ch.lastPrice)
    | _ => ((s.overdrawChannel c d).inkTicket c t d d, d * ch.lastPrice)
  | _ => ((s.overdrawChannel c d).inkTicket c t d d, d * ch.lastPrice)

end Sys2Proof.Machine
end

