-- ==== Sys2Proof/Machine/PathOps.lean ====
section
/-! DEFINITION. The units that act at a stop: the cutter's traverses and their ends, the patch reads and
their ends, the completion of a stop action, and what a fed length does (chapters 6, 8 and 9). -/

namespace Sys2Proof.Machine

open Sys2Proof

/-! ## Completion of a stop action -/

/-- R118: the kind of stop action a cut action stands for. -/
def CutKind.fits : CutKind → StopKind → Bool
  | .leadTrim, .leadTrim _ => true
  | .separate, .separate => true
  | .trailCut, .trailCut => true
  | _, _ => false

/-- The handed action of a kind and a ticket in the stop list. -/
def Media.handedAction (m : Media) (p : StopKind → Bool) (t : TicketId) : Option StopAction :=
  (m.stops.flatMap (·.actions)).find? fun a => a.handed && p a.kind && a.ticket == t

/-- R118: a handed action of a kind and a ticket is removed, and its entry leaves once it is empty. -/
def State.removeAction (s : State) (p : StopKind → Bool) (t : TicketId) : State :=
  s.withMedia { s.media with stops := withdrawStops (fun a => a.handed && p a.kind && a.ticket == t) s.media.stops }

/-- R119: a ticket's PATCH_READ is withdrawn where it is not yet handed. -/
def State.withdrawPatch (s : State) (t : TicketId) : State :=
  s.withMedia { s.media with
    stops := withdrawStops (fun a => !a.handed && a.kind == .patchRead && a.ticket == t) s.media.stops }

/-- R55: the fee of a completed cut action. A ticket that has already closed is not charged. -/
def State.cutFee (s : State) (kind : CutKind) (t : TicketId) : State :=
  match kind with
  | .leadTrim => s.chargeHouse (s.costing.cutFee * 1000000)
  | .separate | .trailCut =>
    match s.ticket t with
    | some k => if k.state.unclosed then s.chargeFee t s.costing.cutFee else s
    | none => s

/-- R118, R54: the media path controller takes the completion of a cut action. -/
def State.completeCut (s : State) (kind : CutKind) (t : TicketId) : State :=
  match s.media.handedAction kind.fits t with
  | none => s
  | some a =>
    let s := s.removeAction kind.fits t
    match a.kind with
    | .leadTrim gap => s.chargeHouse (gap * s.activePrice)
    | .trailCut => s.closeAtTrail t
    | _ => s

/-! ## The cutter -/

/-- R146: a traverse starts for a held action, toward the end opposite the side. -/
def State.startTraverse (s : State) (h : HeldCut) : State :=
  let target : CarriageEnd := match s.cutter.side with
    | .homeEnd => .farEnd
    | .farEnd => .homeEnd
  s.withCutter { s.cutter with state := .cutting target 4000 h, life := s.cutter.life - 1 }

/-- R146: a cut action handed to the cutter. In IDLE a traverse starts; in WORN the action waits. The
media-still law leaves no other state (R142; log entry 16). -/
def State.handCut (s : State) (kind : CutKind) (t : TicketId) : State :=
  let h : HeldCut := { kind := kind, ticket := t, ignored := false }
  match s.cutter.state with
  | .idle => s.startTraverse h
  | .worn _ => (s.withCutter { s.cutter with state := .worn (some h) }).raise .bladeWorn
  | _ => s

/-- R147, R149: a held action ends: reported where its ignored flag is clear; then the cutter is IDLE, or
WORN where no blade life is left. -/
def State.endCut (s : State) (h : HeldCut) : State :=
  let s := if h.ignored then s else (s.cutFee h.kind h.ticket).completeCut h.kind h.ticket
  if s.cutter.life = 0 then (s.withCutter { s.cutter with state := .worn none }).raise .bladeWorn
  else s.withCutter { s.cutter with state := .idle }

/-- R149: the side as the lines give it; HOME where both are high (DEDUCED, log entry 49). -/
def Cutter.sideFromLines (c : Cutter) : CarriageEnd :=
  if c.homeLine then .homeEnd else if c.endLine then .farEnd else c.side

/-! ## The sensor -/

/-- R158, R160: CALIBRATE is sent. -/
def State.sendCalibrate (s : State) : State :=
  let x := (s.colour.exchange + 1) % 256
  (s.withColour { s.colour with sensor := .calibrating, exchange := x, timer := some 10000 }).emit
    (.sensor (.calibrate x))

/-- R158, R160: MEASURE is sent; the calibration count rises by 1, to at most 50. -/
def State.sendMeasure (s : State) (patches : Nat) : State :=
  let x := (s.colour.exchange + 1) % 256
  (s.withColour { s.colour with
    sensor := .measuring, exchange := x, calCount := satAdd 50 s.colour.calCount 1, timer := some 3000 }).emit
    (.sensor (.measure x patches))

/-- What a read that was not discarded ends with (R165, R166). -/
inductive ReadEnd where
  | judged (verdict : Verdict) (deMax deMean : Nat)
  | unverified
deriving DecidableEq, Repr

/-- R166, steps 1 and 3: the ticket is written, and DRIFT_WARN raised for a WARN on a ticket that is
PRINTING or TRAVELLING. -/
def State.writeVerdict (s : State) (t : TicketId) (e : ReadEnd) : State :=
  match s.ticket t, e with
  | none, _ => s
  | some k, .unverified => s.setTicket t { k with verdict := .unverified }
  | some k, .judged v dm da =>
    (s.setTicket t { k with verdict := v, deMax := some dm, deMean := some da }).raiseIf
      (v == .warn && (k.state == .printing || k.state == .travelling)) .driftWarn

/-- R56: the check fee of a measured read. -/
def State.checkFee (s : State) (t : TicketId) (e : ReadEnd) : State :=
  match e with
  | .judged _ _ _ => s.chargeFee t s.costing.checkFee
  | .unverified => s

/-- R166: the end of a patch read, but for the held read and the sensor state, which the caller sets. -/
def State.endRead (s : State) (t : TicketId) (e : ReadEnd) : State :=
  ((s.writeVerdict t e).checkFee t e).removeAction (· == .patchRead) t

/-- R159, R160, R166, R167: a PATCH_READ is handed to the colour check unit with its ticket. -/
def State.handRead (s : State) (t : TicketId) : State :=
  match s.ticket t with
  | none => s
  | some k =>
    match k.refset with
    | none => s.endRead t .unverified
    | some r =>
      let targets := (s.refset r).targets
      if targets.isEmpty || targets.length != k.patches then s.endRead t .unverified
      else
        let h : HeldRead := { ticket := t, set := r, patches := k.patches, retry := false, discard := false,
                              targets := targets }
        let c := s.colour
        if c.settle.isSome then s.withColour { c with held := some h }
        else match c.sensor with
          | .failed => (s.raise .sensorFault).endRead t .unverified
          | .uncalibrated => (s.withColour { c with held := some h }).sendCalibrate
          | .idle =>
            if c.calCount = 50 then (s.withColour { c with held := some h }).sendCalibrate
            else (s.withColour { c with held := some h }).sendMeasure k.patches
          | .calibrating | .measuring => s.withColour { c with held := some h }

/-! ## A stop entry reached -/

/-- R118: an action is handed to its unit. -/
def State.handAction (s : State) (a : StopAction) : State :=
  match a.kind with
  | .leadTrim _ => s.handCut .leadTrim a.ticket
  | .separate => s.handCut .separate a.ticket
  | .trailCut => s.handCut .trailCut a.ticket
  | .patchRead => s.handRead a.ticket

/-- The actions of a list go to their units, in its order. -/
def State.handAll (s : State) (as : List StopAction) : State := as.foldl (fun s a => s.handAction a) s

/-- R118: the first entry is reached where it stands at P; its actions not yet handed are marked handed and
go to their units. -/
def State.reachStop (s : State) : State :=
  match s.media.stops with
  | [] => s
  | e :: es =>
    if e.position = s.media.position then
      let fresh := e.actions.filter (!·.handed)
      let s := s.withMedia { s.media with
        stops := { e with actions := e.actions.map fun a => { a with handed := true } } :: es }
      s.handAll fresh
    else s

/-! ## A fed length -/

/-- R53, R116: a ticket is credited a fed length, and charged its media. -/
def State.creditTicket (s : State) (t : TicketId) (f : Nat) : State :=
  match s.ticket t with
  | none => s
  | some k =>
    let credit := min f (k.l - k.fed)
    (s.setTicket t { k with fed := k.fed + credit }).chargeTicket t (credit * s.mediaPrice k.roll)

/-- R115: the started ticket that has fed nothing and is not the one the operation served. -/
def State.unfedStart (s : State) (served : Option TicketId) : Option TicketId :=
  s.desk.path.find? fun t =>
    some t != served &&
    match s.ticket t with
    | some k => (k.state == .printing || k.state == .cancelling) && k.fed == 0
    | none => false

/-- R115: the ticket is re-placed at the new P, against the same old path end. -/
def State.replaceStart (s : State) (served : Option TicketId) (f : Nat) : State :=
  if f = 0 then s
  else match s.unfedStart served with
    | none => s
    | some t =>
      match s.ticket t with
      | none => s
      | some k =>
        (s.withMedia { s.media with stops := withdrawStops (fun a => a.ticket == t) s.media.stops }).placeTicket t
          k.oldEnd

/-- R28: a credited ticket that is PRINTING and has fed its L becomes TRAVELLING, a CANCELLING one stays so;
in either case the start test is made again, and a drain's eject requested (R182). A pause timer still running
on the ticket that becomes TRAVELLING stops (DESIGN CHOICE, log entry 43: R37's expiry is that of a PRINTING
ticket, and a TRAVELLING one is granted nothing more). -/
def State.fedReachesL (s : State) (served : Option TicketId) (f : Nat) : State :=
  match served with
  | none => s
  | some t =>
    match s.ticket t with
    | none => s
    | some k =>
      if k.fed = k.l && decide (0 < f) && (k.state == .printing || k.state == .cancelling) then
        let s := if k.state = .printing then s.setTicket t { k with state := .travelling, pauseTimer := none } else s
        s.drainEject.startTest
      else s

/-- R116: a fed length, with the ticket the operation served. -/
def State.takeFed (s : State) (served : Option TicketId) (f : Nat) : State :=
  let s := (s.withMedia { s.media with position := s.media.position + f }).feedRoll f
  let s := match served with
    | some t => s.creditTicket t f
    | none => s
  ((s.replaceStart served f).reachStop).fedReachesL served f

end Sys2Proof.Machine
end

