-- ==== Sys2Proof/Machine/EngineOps.lean ====
section
/-! DEFINITION. The stop-now treatment (R183), and the engine's arbitration: the holds, the head-care slot,
what is sent when the engine is free, and the end of a wake (chapters 7 and 10). `State.settle` is the end
of an event that may have changed any of their inputs. -/

namespace Sys2Proof.Machine

open Sys2Proof

/-! ## Stop-now -/

/-- R183: the heads at halt, from the state left. -/
def RunRecord.headsNow (r : RunRecord) : Heads :=
  match r.state, r.wake with
  | .capped, _ => .covered
  | .doze, _ => .unpurged
  | .waking, some (_, .uncap) => .covered
  | .waking, some (_, .purge) => .unpurged
  | _, _ => .ready

/-- R183: the run controller's own part. -/
def State.haltRun (s : State) (halt : HaltCause) : State :=
  let r := s.run
  let r := if r.state = .halted then r
    else { r with haltCause := some halt, headsAtHalt := some r.headsNow }
  let r := { r with wake := none, resumeWait := false, manual := none, wanted := none }
  let s' := s.withRun (r.withdrawUnsent.enter .halted)
  s'.raiseIf (s.run.state != .halted) .runHalted

/-- The operation outstanding after an ABORT (R137). -/
def EngineLink.abort (l : EngineLink) : EngineLink :=
  match l.op with
  | none => { l with owed := none, request := none }
  | some o =>
    { l with op := some { o with aborted := true }, owed := none, request := none,
             swathTimer := if o.aborted then l.swathTimer else some 20000 }

/-- R132: a pending swath request of a ticket is answered DENY. -/
def State.denyRequest (s : State) (p : TicketId → Bool) : State :=
  match s.engine.request with
  | some q =>
    if p q.ticket then (s.withEngine { s.engine with request := none }).emit (.engine (.deny q.ticket)) else s
  | none => s

/-- R137: the engine link controller's part. -/
def State.abortEngine (s : State) : State :=
  let s := (s.emit (.engine .abort)).denyRequest fun _ => true
  s.withEngine s.engine.abort

/-- Every started ticket of a list is closed by the stop, in its order. -/
def State.closeAll (s : State) (ts : List TicketId) (cause : SpoilCause) : State :=
  ts.foldl (fun s t => s.closeAtStop t cause) s

/-- R39: the admission controller's part; both queues are empty afterwards. -/
def State.stopTickets (s : State) (cause : SpoilCause) : State :=
  let s := s.cancelAll s.desk.admitted cause
  let s := s.closeAll s.desk.path cause
  s.withDesk { s.desk with admitted := [], path := [] }

/-- R120: the media path controller's part. -/
def State.stopPath (s : State) : State :=
  s.withMedia { s.media with stops := [], ejectTimer := none, eject := false }

/-- R151: the cutter controller's part. The table's row drops an action that waits in WORN, also one that an
earlier stop-now marked ignored; that a second stop-now "changes nothing in the cutter" is read of CUTTING and
JAMMED, whose rows set the flag (DEDUCED, log entry 56). -/
def CutterState.stopped : CutterState → CutterState
  | .idle => .idle
  | .cutting target timer h => .cutting target timer { h with ignored := true }
  | .jammed h => .jammed { h with ignored := true }
  | .worn _ => .worn none

/-- R151, R168: the cutter controller and the colour check unit are handed the stop. -/
def State.stopUnits (s : State) : State :=
  let s := s.withCutter { s.cutter with state := s.cutter.state.stopped }
  s.withColour { s.colour with held := s.colour.held.map fun h => { h with discard := true } }

/-- R183: the stop-now treatment. In ENGINE_WAIT no cause applies any. -/
def State.stopNow (s : State) (halt : HaltCause) (cause : SpoilCause) : State :=
  if s.run.state = .engineWait then s
  else (((((s.haltRun halt).abortEngine).stopTickets cause).stopPath).stopUnits).writeBackFeeding

/-- R140: an engine message that is a protocol error. In ENGINE_WAIT none is. -/
def State.protocolError (s : State) : State :=
  if s.run.state = .engineWait then s
  else (s.withRun { s.run with protocolError := true }).stopNow .protocol .engine

/-! ## Holds -/

/-- The channel set of the edition of a ticket. -/
def State.ticketChannels (s : State) (t : TicketId) : ChannelSet :=
  match s.ticket t with
  | none => 0
  | some k => match s.edition k.edition with
    | none => 0
    | some e => e.channels

/-- Whether a hold of R130 applies to a request of a ticket. -/
def State.holdApplies (s : State) (t : TicketId) : Hold → Bool
  | .stopAtHead => s.stopAtHead
  | .channelUnfed => (membersOf (s.ticketChannels t)).any fun c => !(s.channel c).isFed
  | .needsPurge => (membersOf (s.ticketChannels t)).any fun c => s.run.needsPurge[c].isSome
  | .owedFeed => s.engine.owed.isSome
  | .cutter => s.cutter.state.holdsMedia
  | .sensor => s.colour.sensor.holdsMedia

/-- R130: the holds that apply, in the order of its table. -/
def State.holds (s : State) (t : TicketId) : List Hold :=
  [Hold.stopAtHead, .channelUnfed, .needsPurge, .owedFeed, .cutter, .sensor].filter (s.holdApplies t)

/-- R36: the pause timer of a PRINTING ticket is loaded with the limit, where its swath count is at least
1. A ticket that is no longer PRINTING starts none (log entry 41). -/
def State.startPause (s : State) (t : TicketId) : State :=
  s.modTicket t fun k =>
    if k.state = .printing && decide (1 ≤ k.swathCount) then { k with pauseTimer := loadSeconds s.desk.pauseLimit }
    else k

/-- R130: a pending request that is found held for the first time is marked held, and its pause timer may
start. The request of a ticket that has become TRAVELLING is marked like any other (log entry 41). -/
def State.holdTest (s : State) : State :=
  match s.engine.request with
  | none => s
  | some q =>
    if !q.held && !(s.holds q.ticket).isEmpty then
      (s.withEngine { s.engine with request := some { q with held := true } }).startPause q.ticket
    else s

/-! ## Head care -/

/-- R178: the end of a wake. -/
def State.wakeEnd (s : State) : State :=
  let s := s.withRun { s.run with wake := none }
  if s.noneUnclosed then s.enterRun .idle
  else if s.run.resumeWait then s.enterRun .paused
  else s.enterRunning

/-- R180: the lowest channel for which a single-channel purge is wanted: FED, with needs-purge. -/
def State.singleWanted (s : State) : Option ChannelId :=
  (List.finRange 12).find? fun c => (s.channel c).isFed && s.run.needsPurge[c].isSome

/-- The run states in which single-channel and manual purges are presented (R175). -/
def RunState.open_ : RunState → Bool
  | .idle | .running | .draining | .paused => true
  | _ => false

/-- R175: the first wanted head-care operation. -/
def State.wantedOp (s : State) : Option HeadOp :=
  match s.run.state with
  | .waking =>
    match s.run.wake with
    | some (_, .uncap) => some .uncap
    | some (_, .purge) => some (.purge .wake)
    | none => none
  | .doze | .capped =>
    match s.run.wanted with
    | some .park => some .park
    | some .cap => some .cap
    | none => none
  | st =>
    if st.open_ then
      match s.singleWanted with
      | some c => some (.purge (.single c))
      | none => if s.run.manual.isSome then some (.purge .manual) else none
    else none

/-- R175: an empty head-care slot is filled with the first wanted operation. A PARK or CAP presented is no
longer waiting to be. -/
def State.present (s : State) : State :=
  match s.run.slot, s.wantedOp with
  | none, some op =>
    let wanted := match op with
      | .park | .cap => none
      | _ => s.run.wanted
    s.withRun { s.run with slot := some { op := op, sent := false }, wanted := wanted }
  | _, _ => s

def State.emptySlot (s : State) : State := s.withRun { s.run with slot := none }

/-- R127: an operation begins. -/
def State.beginOp (s : State) (kind : EngineOpKind) (m : EngineMessage) : State :=
  (s.withEngine { s.engine with op := some { kind := kind, aborted := false } }).emit (.engine m)

/-- A head-care operation is sent. -/
def State.sendHead (s : State) (op : HeadOp) (kind : EngineOpKind) (m : EngineMessage) : State :=
  (s.withRun { s.run with slot := some { op := op, sent := true } }).beginOp kind m

/-- The channels of a set that are FED and whose volume is above 0. -/
def State.purgeable (s : State) (v : Vector Nat 12) (p : ChannelId → Bool) : ChannelSet :=
  channelsWhere fun c => p c && (s.channel c).isFed && decide (0 < v[c])

/-- The volumes of a purge, 0 outside its channel set (12.5). -/
def maskVolumes (set : ChannelSet) (v : Vector Nat 12) : Vector Nat 12 :=
  Vector.ofFn fun c => if set.getLsbD c.val then v[c] else 0

/-- A purge whose content is fixed is sent. -/
def State.sendPurge (s : State) (kind : PurgeKind) (set : ChannelSet) (v : Vector Nat 12) : State :=
  s.sendHead (.purge kind) (.purge set (maskVolumes set v)) (.purge set (maskVolumes set v))

/-- R178: the needs-purge flags once a wake purge is fixed: every channel not FED whose volume is above 0
takes the wake level. -/
def State.wakeFlags (s : State) (lvl : Level) (v : Vector Nat 12) : Vector (Option Level) 12 :=
  Vector.ofFn fun c =>
    if !(s.channel c).isFed && decide (0 < v[c]) then some lvl else s.run.needsPurge[c]

/-- R178: the wake purge is fixed and sent; with no channel to purge the wake ends. -/
def State.sendWakePurge (s : State) (lvl : Level) : State :=
  let v := s.run.volumesAt lvl
  let set := s.purgeable v fun _ => true
  let s := s.withRun { s.run with needsPurge := s.wakeFlags lvl v }
  if set = 0 then s.emptySlot.wakeEnd else s.sendPurge .wake set v

/-- R180: a single-channel purge is fixed and sent, or not, by the channel as it stands. -/
def State.sendSinglePurge (s : State) (c : ChannelId) : State :=
  match (s.channel c).isFed, s.run.needsPurge[c] with
  | true, some lvl =>
    let v := s.run.volumesAt lvl
    let set := channelsWhere (· == c)
    if v[c] = 0 then (s.withRun { s.run with needsPurge := put s.run.needsPurge c none }).emptySlot
    else s.sendPurge (.single c) set v
  | _, _ => s.emptySlot

/-- R181: the manual purge is fixed and sent; with no channel left nothing is sent. -/
def State.sendManualPurge (s : State) : State :=
  match s.run.manual with
  | none => s.emptySlot
  | some (set, lvl) =>
    let v := s.run.volumesAt lvl
    let set := s.purgeable v fun c => set.getLsbD c.val
    let s := s.withRun { s.run with manual := none }
    if set = 0 then s.emptySlot else s.sendPurge .manual set v

/-- R128, R136: the presented head-care operation is sent to a free engine. -/
def State.sendPresented (s : State) (op : HeadOp) : State :=
  match op with
  | .park => s.sendHead .park .park .park
  | .cap => s.sendHead .cap .cap .cap
  | .uncap => s.sendHead .uncap .uncap .uncap
  | .purge .wake =>
    match s.run.wake with
    | some (lvl, _) => s.sendWakePurge lvl
    | none => s.emptySlot
  | .purge (.single c) => s.sendSinglePurge c
  | .purge .manual => s.sendManualPurge

/-! ## Feeds and grants -/

/-- R128: the FEED that is due and may be sent, with its distance and purpose. An eject feed asks for no
empty reservation, and no test of R113's slack is made (DEDUCED, log entry 47). -/
def State.feedDue (s : State) : Option (Nat × FeedPurpose) :=
  if s.mediaHold then none
  else match s.engine.owed, s.stopDistance with
    | some (t, n), none => some (n, .owed t)
    | some (t, n), some d => if d = 0 then none else some (min n d, .owed t)
    | none, some d => if s.media.eject && d != 0 then some (d, .eject) else none
    | none, none => none

/-- The owed feed of a ticket, none where it is 0 (R125). -/
def owedOf (t : TicketId) (n : Nat) : Option (TicketId × Nat) := if n = 0 then none else some (t, n)

/-- R131: the allowance: the smallest of the step, L − fed and d. -/
def allowance (step left : Nat) : Option Nat → Nat
  | none => min step left
  | some d => min (min step left) d

/-- R30: what a GRANT does to its ticket. -/
def Ticket.grantedSwath (k : Ticket) : Ticket :=
  { k with outstanding := true, pauseTimer := none, lotMixed := k.lotMixed || k.changeSeen, changeSeen := false }

/-- R131: the pending request is granted. A grant is always for the ticket that is PRINTING (R27): the
request of one that became TRAVELLING while it was pending stays pending, neither granted nor denied
(DESIGN CHOICE, log entry 41: R132 names no DENY for it). -/
def State.grant (s : State) (q : SwathRequest) : State :=
  match s.ticket q.ticket with
  | none => s
  | some k =>
    if k.state = .printing then
      let left := k.l - k.fed
      let a := allowance q.step left s.stopDistance
      let s := s.beginOp (.swath q.ticket a) (.grant q.ticket a)
      let s := s.withEngine { s.engine with
        request := none, swathTimer := some 20000, owed := owedOf q.ticket (min q.step left - a) }
      s.setTicket q.ticket k.grantedSwath
    else s

/-- R128, candidates 2 and 3: a FEED, or else a grant. -/
def State.feedOrGrant (s : State) : State :=
  match s.feedDue with
  | some (n, p) => s.beginOp (.feed n p) (.feed n)
  | none =>
    match s.engine.request with
    | some q => if (s.holds q.ticket).isEmpty then s.grant q else s
    | none => s

/-- R128: the choice of the next operation. A head-care operation with nothing to send leaves the slot
empty, and the choice is made again; the bound covers a wake, every single-channel purge and a manual one. -/
def State.arbitrate : Nat → State → State
  | 0, s => s
  | n + 1, s =>
    let s := s.present
    if s.engine.op.isSome then s
    else match s.run.slot with
      | some ⟨op, false⟩ =>
        let s := s.sendPresented op
        if s.engine.op.isSome then s else State.arbitrate n s
      | _ => s.feedOrGrant

/-- The end of an event: the hold test, the choice of the engine's next operation, the eject timer, and the
tag bus. `before` is the state the event found. -/
def State.settle (s before : State) : State :=
  (((State.arbitrate 20 s.holdTest)).ejectTest before).serveTags

/-- A request's end: its effects settled, and its reply. -/
def settled (s before : State) (body : ReplyBody) : State × Reply := accept (s.settle before) body

end Sys2Proof.Machine
end

