-- ==== Sys2Proof/Machine/ColourUnit.lean ====
section
/-! DEFINITION. The reference sets, the answers of the sensor head, its timers, and the judgement of a row
(09_colour_checks.md): R154, R155, R158, R161 to R165, R168 to R170. -/

namespace Sys2Proof.Machine

open Sys2Proof

/-! ## The colour difference -/

/-- The largest q with q × q not above s, from its bits 2ᵏ⁻¹ down; `acc` is the part already found. -/
def rootFrom : Nat → Nat → Nat → Nat
  | 0, acc, _ => acc
  | k + 1, acc, s => if (acc + 2 ^ k) * (acc + 2 ^ k) ≤ s then rootFrom k (acc + 2 ^ k) s else rootFrom k acc s

/-- The integer square root, rounded down, of a number below 2³² (R163). -/
def isqrt (s : Nat) : Nat := rootFrom 16 0 s

/-- R163: the sum of the squared differences, the measured values clamped first. -/
def squaredDiff (measured target : Lab) : Nat :=
  let m := clampLab measured
  ((m.l - target.l) * (m.l - target.l) + (m.a - target.a) * (m.a - target.a) +
    (m.b - target.b) * (m.b - target.b)).toNat

/-- R163: ΔE of one patch. -/
def deltaE (measured target : Lab) : Nat := isqrt (squaredDiff measured target)

/-- R163: ΔE of each patch of a row. -/
def deltas (measured targets : List Lab) : List Nat := List.zipWith deltaE measured targets

/-- R164: the largest ΔE. -/
def deltaMax (ds : List Nat) : Nat := ds.foldl max 0

/-- R164: the mean, rounded half up. -/
def deltaMean (ds : List Nat) : Nat :=
  ds.sum / ds.length + (if ds.length ≤ 2 * (ds.sum % ds.length) then 1 else 0)

/-- R165. -/
def verdictOf (dmax dmean tmax tmean twarn : Nat) : Verdict :=
  if tmax < dmax ∨ tmean < dmean then .fail
  else if twarn < dmean then .warn
  else .pass

/-- R163 to R165: a row judged by the tolerances its ticket captured. -/
def judgeRow (k : Ticket) (measured targets : List Lab) : ReadEnd :=
  let ds := deltas measured targets
  .judged (verdictOf (deltaMax ds) (deltaMean ds) k.tmax k.tmean k.twarn) (deltaMax ds) (deltaMean ds)

/-! ## The ends of a calibration and of a measurement -/

/-- The sensor once a request has ended: its state, no held read, its timer stopped. -/
def State.sensorEnds (s : State) (st : SensorState) : State :=
  s.withColour { s.colour with sensor := st, held := none, timer := none }

/-- R161, CAL_DONE ok. -/
def State.calibrated (s : State) : State :=
  let s := s.withColour { s.colour with calCount := 0, timer := none }
  match s.colour.held with
  | none => s.sensorEnds .idle
  | some h => if h.discard then s.sensorEnds .idle else s.sendMeasure h.patches

/-- R161, CAL_DONE fail, or the timer's expiry. -/
def State.calibrationFailed (s : State) : State :=
  let s' := (s.sensorEnds .failed).raise .sensorFault
  match s.colour.held with
  | none => s'
  | some h => if h.discard then s' else s'.endRead h.ticket .unverified

/-- R162: a second attempt that failed. -/
def State.readFailed (s : State) (h : HeldRead) : State :=
  let s := s.sensorEnds .idle
  ((s.withColour { s.colour with calCount := 50 }).raise .sensorFault).endRead h.ticket .unverified

/-- R162, R168: an attempt ends without a usable row. A discarded read writes nothing (log entry 44). -/
def State.attemptFailed (s : State) : State :=
  match s.colour.held with
  | none => s.sensorEnds .idle
  | some h =>
    if h.discard then s.sensorEnds .idle
    else if h.retry then s.readFailed h
    else (s.withColour { s.colour with held := some { h with retry := true } }).sendMeasure h.patches

/-- R163: a row of as many triples as patches is judged. -/
def State.rowRead (s : State) (h : HeldRead) (row : List Lab) : State :=
  match s.ticket h.ticket with
  | none => s.sensorEnds .idle
  | some k => (s.sensorEnds .idle).endRead h.ticket (judgeRow k row h.targets)

/-- R162, R168: a current RESULT. R29 has the verdict of a measurement that ends after its ticket closed
written, R168 has a read discarded by a stop-now write nothing: R168 is followed for such a read, and R29 for
every other (DEDUCED, log entry 44). -/
def State.rowTaken (s : State) (row : List Lab) : State :=
  match s.colour.held with
  | none => s.sensorEnds .idle
  | some h =>
    if h.discard then s.sensorEnds .idle
    else if row.length = h.patches then s.rowRead h row
    else s.attemptFailed

/-! ## The sensor's messages and timers -/

/-- R158: an answer to a request outstanding in a state, carrying an exchange number, is current. -/
def Colour.current (c : Colour) (st : SensorState) (exchange : Nat) : Bool :=
  c.settle.isNone && c.sensor == st && c.exchange == exchange

/-- R161. -/
def calDone (exchange : Nat) (ok : Bool) (s : State) : State :=
  if s.colour.current .calibrating exchange then (if ok then s.calibrated else s.calibrationFailed).settle s else s

/-- R162, R163. -/
def resultTaken (exchange : Nat) (row : List Lab) (s : State) : State :=
  if s.colour.current .measuring exchange then (s.rowTaken row).settle s else s

/-- R162. -/
def sensorErrorTaken (exchange code : Nat) (s : State) : State :=
  if s.colour.current .measuring exchange then
    ((s.withColour { s.colour with lastError := some code }).attemptFailed).settle s
  else s

/-- R161, R162: the sensor timer's expiry. -/
def sensorTimerExpired (s : State) : State :=
  match s.colour.timer, s.colour.sensor with
  | some _, .calibrating => s.calibrationFailed.settle s
  | some _, .measuring => s.attemptFailed.settle s
  | _, _ => s

/-- R158: the settle timer's expiry, and the held read that waited for it. -/
def State.settleEnds (s : State) : State :=
  let s := s.withColour { s.colour with settle := none }
  match s.colour.held with
  | none => s
  | some h => if h.discard then s.withColour { s.colour with held := none } else s.sendCalibrate

/-- R158. -/
def settleTimerExpired (s : State) : State :=
  match s.colour.settle with
  | none => s
  | some _ => s.settleEnds.settle s

/-- R198: a malformed frame on the sensor link is discarded. -/
def sensorFrameDiscarded (s : State) : State := s

/-! ## Requests -/

/-- R154. -/
def reqRefsetLoad (set count : Nat) (targets : List Lab) (s : State) : State × Reply :=
  match asId 16 set with
  | none => refuse .badSlot s
  | some r =>
    if 0 < (s.refset r).useCount then refuse .inUse s
    else if !within 1 24 count || targets.length != count then refuse .range s
    else
      accept (s.setRefset r { targets := targets.map clampLab, useCount := (s.refset r).useCount })
        (.patchCount count)

/-- R155. -/
def reqRefsetClear (set : Nat) (s : State) : State × Reply :=
  match asId 16 set with
  | none => refuse .badSlot s
  | some r =>
    if 0 < (s.refset r).useCount then refuse .inUse s
    else accept (s.setRefset r { targets := [], useCount := (s.refset r).useCount }) .empty

/-- R155. -/
def reqRefsetGet (set : Nat) (s : State) : State × Reply :=
  match asId 16 set with
  | none => refuse .badSlot s
  | some r => accept s (.refset (s.refset r).useCount (s.refset r).targets)

/-- R169. -/
def reqSensorReset (s : State) : State × Reply :=
  if s.colour.sensor.holdsMedia || (s.colour.settle.isSome && s.colour.held.isSome) then refuse .busy s
  else
    accept (s.withColour { s.colour with sensor := .uncalibrated, calCount := 0, lastError := none }) .empty

/-- R170: a held read as it is reported. -/
def HeldRead.view (h : HeldRead) : HeldReadView :=
  { ticket := h.ticket, set := h.set, patches := h.patches, retry := h.retry, discard := h.discard }

/-- R170. -/
def reqSensorGet (s : State) : State × Reply :=
  accept s (.sensor s.colour.sensor s.colour.calCount s.colour.calibrationDue s.colour.exchange
    (s.colour.held.map HeldRead.view) s.colour.timer s.colour.lastError)

end Sys2Proof.Machine
end

