-- ==== Sys2Proof/Machine/Costs.lean ====
section
/-! DEFINITION. Metering a swath's drops, charging a purge, and the requests on drop volumes, fees and the
house account (03_ink_metering_and_costing.md): R43 to R51, R60 to R63. -/

namespace Sys2Proof.Machine

open Sys2Proof

/-! ## Metering -/

/-- R48: the largest count taken as it is carried. -/
def countLimit : Nat := 268435455

/-- R48, stage 1: the volume fired on a channel, in tp. -/
def DropVolumes.fired (v : DropVolumes) (n : DropCounts) : Nat :=
  min countLimit n.small * v.small + min countLimit n.medium * v.medium + min countLimit n.large * v.large

/-- R48: some count is above the limit. -/
def countsClamp (n : DropCounts) : Bool :=
  decide (countLimit < n.small) || decide (countLimit < n.medium) || decide (countLimit < n.large)

/-- R47: the three counts are all 0. -/
def countsNone (n : DropCounts) : Bool := n.small == 0 && n.medium == 0 && n.large == 0

/-- R49, stage 2: the residue with the volume added. -/
def State.metered (s : State) (c : ChannelId) (n : DropCounts) : Nat :=
  s.costing.residues[c] + s.costing.volumes[c].fired n

/-- R50, R51: a swath's debit is handed, and its price charged to the ticket. A debit of 0 is not handed. -/
def State.debitTicket (s : State) (t : TicketId) (c : ChannelId) (d : Nat) : State :=
  if d = 0 then s
  else
    let r := s.debit c d (some t)
    r.1.chargeTicket t r.2

/-- R47 to R51: one channel of a swath report. -/
def State.meterChannel (s : State) (t : TicketId) (n : DropCounts) (c : ChannelId) : State :=
  if countsNone n then s
  else
    let total := s.metered c n
    let s := s.modTicket t fun k => { k with countClamped := k.countClamped || countsClamp n }
    let s := s.withCosting { s.costing with residues := put s.costing.residues c (total % 10000) }
    s.debitTicket t c (total / 10000)

/-- R46, R47: every channel of a swath report. -/
def State.meterSwath (s : State) (t : TicketId) (counts : Vector DropCounts 12) : State :=
  (List.finRange 12).foldl (fun s c => s.meterChannel t counts[c] c) s

/-- R60: one value of a purge report. -/
def State.purgeChannel (s : State) (v : Nat) (c : ChannelId) : State :=
  let d := min 2000000 v
  if d = 0 then s
  else
    let r := s.debit c d none
    r.1.chargeHouse r.2

/-- R60: every value of a purge report. -/
def State.chargePurge (s : State) (volumes : Vector Nat 12) : State :=
  (List.finRange 12).foldl (fun s c => s.purgeChannel volumes[c] c) s

/-! ## Requests -/

/-- R44. -/
def reqDropVolumesSet (channel small medium large : Nat) (s : State) : State × Reply :=
  match asId 12 channel with
  | none => refuse .badSlot s
  | some c =>
    let v : DropVolumes := { small := clamp 1 400 small, medium := clamp 1 400 medium, large := clamp 1 400 large }
    accept (s.withCosting { s.costing with volumes := put s.costing.volumes c v }) (.dropVolumes v)

/-- R45. -/
def reqFeeSet (cut check : Nat) (s : State) : State × Reply :=
  let a := min 1000000 cut
  let b := min 1000000 check
  accept (s.withCosting { s.costing with cutFee := a, checkFee := b }) (.fees a b)

/-- R46. -/
def reqMeterGet (s : State) : State × Reply :=
  accept s (.meter s.costing.volumes s.costing.residues s.costing.cutFee s.costing.checkFee)

/-- R62: the house account as it is read. -/
def Costing.houseItems (c : Costing) : ReplyBody :=
  .house (roundCu c.house) (c.house % 1000000) c.houseSaturated

/-- R62. -/
def reqHouseGet (s : State) : State × Reply := accept s s.costing.houseItems

/-- R63. -/
def reqHouseClear (s : State) : State × Reply :=
  accept (s.withCosting { s.costing with house := 0, houseSaturated := false }) s.costing.houseItems

end Sys2Proof.Machine
end

