-- ==== Sys2Proof/Machine/CutterUnit.lean ====
section
/-! DEFINITION. The cutter's lines, its timer and its requests (08_the_cutter.md): R145, R147 to R150,
R152. -/

namespace Sys2Proof.Machine

open Sys2Proof

/-! ## Lines and time -/

/-- The level of one of the two lines. -/
def State.setCutterLine (s : State) (x : CarriageEnd) (level : Bool) : State :=
  match x with
  | .homeEnd => s.withCutter { s.cutter with homeLine := level }
  | .farEnd => s.withCutter { s.cutter with endLine := level }

/-- R145, R147: a line has risen: the traverse ends at its target's line, the other line is ignored in
CUTTING, and elsewhere the side follows the carriage. -/
def State.carriageAt (s : State) (x : CarriageEnd) : State :=
  match s.cutter.state with
  | .cutting target _ h => if x = target then (s.withCutter { s.cutter with side := x }).endCut h else s
  | _ => s.withCutter { s.cutter with side := x }

/-- R145, R147. -/
def cutterLineRose (x : CarriageEnd) (s : State) : State := ((s.setCutterLine x true).carriageAt x).settle s

/-- R145. -/
def cutterLineFell (x : CarriageEnd) (s : State) : State := s.setCutterLine x false

/-- R148: the cut timer's expiry. -/
def cutTimerExpired (s : State) : State :=
  match s.cutter.state with
  | .cutting _ _ h => ((s.withCutter { s.cutter with state := .jammed h }).raise .cutterJam).settle s
  | _ => s

/-! ## Requests -/

/-- R149: the side is taken from the lines. -/
def State.sideTaken (s : State) : State := s.withCutter { s.cutter with side := s.cutter.sideFromLines }

/-- R149, made. -/
def reqCutterClearMade (s : State) : State × Reply :=
  match s.cutter.state with
  | .jammed h => settled (s.sideTaken.endCut h) s .empty
  | _ => refuse .badState s

/-- R149, retry: a traverse, or the wait for a blade. -/
def State.retryCut (s : State) (h : HeldCut) : State :=
  let s := s.sideTaken
  if s.cutter.life = 0 then (s.withCutter { s.cutter with state := .worn (some h) }).raise .bladeWorn
  else s.startTraverse h

/-- R149, retry. -/
def reqCutterClearRetry (s : State) : State × Reply :=
  match s.cutter.state with
  | .jammed h => settled (s.retryCut h) s .empty
  | _ => refuse .badState s

/-- R150: what a fit does to the cutter's state. Its row for a waiting action and R142 collide where the action
is ignored, its entry gone, and a GRANT or a FEED is outstanding: there the model keeps R142, starts no traverse
and drops the action, as R151's row does (DESIGN CHOICE, log entry 52). -/
def State.fitBlade (s : State) (life : Nat) : State :=
  let idle := s.cutter.state == .idle
  let s := s.withCutter { s.cutter with life := life }
  if life = 0 then
    if idle then (s.withCutter { s.cutter with state := .worn none }).raise .bladeWorn else s
  else
    match s.cutter.state with
    | .worn none => s.withCutter { s.cutter with state := .idle }
    | .worn (some h) =>
      if h.ignored && s.engine.mediaBusy then s.withCutter { s.cutter with state := .idle } else s.startTraverse h
    | _ => s

/-- R150. The stored life of the reply is the life fitted, before the traverse that the fit may start takes
its stroke (DEDUCED, log entry 48). -/
def reqBladeFit (life : Nat) (s : State) : State × Reply :=
  if s.cutter.state.holdsMedia then refuse .busy s
  else if 100000 < life then refuse .range s
  else settled (s.fitBlade life) s (.bladeLife life)

/-- R152. -/
def reqCutterGet (s : State) : State × Reply := accept s (.cutter s.cutter)

end Sys2Proof.Machine
end

