-- ==== Sys2Proof/Machine/Editions.lean ====
section
/-! DEFINITION. The edition requests (01_editions_and_print_numbers.md, R3 to R11): each as the state it
leaves and the reply it is given. -/

namespace Sys2Proof.Machine

open Sys2Proof

/-! ## Shared tests -/

/-- The edition a request needs: none for an index above 63 or a FREE slot (R3). -/
def State.findEdition (s : State) (slot : Nat) : Option (EditionId × Edition) :=
  match asId 64 slot with
  | none => none
  | some i => (s.edition i).map fun e => (i, e)

/-- The slot, other than one given, of a non-FREE edition holding a label. -/
def State.labelAt (s : State) (label : Nat) (except : Option EditionId) : Option EditionId :=
  (List.finRange 64).find? fun i =>
    some i != except && match s.edition i with | some e => e.label == label | none => false

/-- R4, check 4: the size, media class, channel set and policy are in range. -/
def paramsInRange (p : EditionParams) : Bool :=
  sizeOk p.size && classOk p.mediaClass && channelsOk p.channels && decide (p.policy ≤ 1)

/-- A MEASURE policy's reference set: RANGE above 15, NO_REFSET where it holds no target (R4, checks 5
and 6). -/
def State.measureSet (s : State) (r : Nat) : Except Status RefsetId :=
  match asId 16 r with
  | none => .error .range
  | some i => if (s.refset i).targets.isEmpty then .error .noRefset else .ok i

/-- The reference set a request's policy and set name; NONE ignores the set (R4). -/
def State.policySet (s : State) (policy r : Nat) : Except Status (Option RefsetId) :=
  if policy = 1 then
    match s.measureSet r with
    | .ok i => .ok (some i)
    | .error e => .error e
  else .ok none

/-- R4, R5: the pins of a channel set, from the feeding lots. -/
def State.feedingPins (s : State) (set : ChannelSet) : Vector (Option Nat) 12 :=
  Vector.ofFn fun c => if set.getLsbD c.val then s.feedingLot c else none

/-- R153, R156: a reference set's use count moves. -/
def State.useSet (s : State) (r : Option RefsetId) : State :=
  match r with
  | none => s
  | some i => s.setRefset i { s.refset i with useCount := (s.refset i).useCount + 1 }

def State.releaseSet (s : State) (r : Option RefsetId) : State :=
  match r with
  | none => s
  | some i => s.setRefset i { s.refset i with useCount := (s.refset i).useCount - 1 }

/-! ## EDITION_CREATE -/

/-- The record of a new edition (R1, third column). -/
def State.newEdition (s : State) (p : EditionParams) (r : Option RefsetId) : Edition :=
  let t := clampTolerances p.tmax p.tmean p.twarn
  { label := p.label, state := .opened, size := p.size, next := 1, good := 0, spoiled := 0, unverified := 0,
    returns := [], inFlight := 0, mediaClass := p.mediaClass, channels := toChannels p.channels,
    pins := s.feedingPins (toChannels p.channels), requalify := false, refset := r, tmax := t.tmax,
    tmean := t.tmean, twarn := t.twarn, strict := p.strict, trim := p.trim,
    holdThreshold := clampThreshold p.holdThreshold, fails := 0, locked := false, goodCost := 0, spoilCost := 0,
    goodInk := 0, goodMedia := 0 }

/-- R4. -/
def reqEditionCreate (slot : Nat) (p : EditionParams) (s : State) : State × Reply :=
  match asId 64 slot with
  | none => refuse .badSlot s
  | some i =>
    if (s.edition i).isSome then refuse .badState s
    else if (s.labelAt p.label none).isSome then refuse .duplicate s
    else if !paramsInRange p then refuse .range s
    else match s.policySet p.policy p.refset with
      | .error e => refuse e s
      | .ok r => accept ((s.setEdition i (s.newEdition p r)).useSet r) (.slot slot)

/-! ## EDITION_SET -/

/-- R5, check 5, less the reference set: the supplied values in range. -/
def setInRange (g : BitVec 16) (p : EditionParams) : Bool :=
  (!g.getLsbD 1 || sizeOk p.size) && (!g.getLsbD 2 || classOk p.mediaClass) &&
  (!g.getLsbD 3 || channelsOk p.channels) && (!g.getLsbD 4 || decide (p.policy ≤ 1))

/-- R5: the record with every supplied group replaced; `r` is the reference set of a supplied policy. A
channel set that differs from the stored one re-takes the pins. -/
def State.changedEdition (s : State) (e : Edition) (g : BitVec 16) (p : EditionParams) (r : Option RefsetId) :
    Edition :=
  let t := clampTolerances p.tmax p.tmean p.twarn
  let set := if g.getLsbD 3 then toChannels p.channels else e.channels
  { e with
    label := if g.getLsbD 0 then p.label else e.label,
    size := if g.getLsbD 1 then p.size else e.size,
    mediaClass := if g.getLsbD 2 then p.mediaClass else e.mediaClass,
    channels := set,
    pins := if set = e.channels then e.pins else s.feedingPins set,
    refset := if g.getLsbD 4 then r else e.refset,
    tmax := if g.getLsbD 5 then t.tmax else e.tmax,
    tmean := if g.getLsbD 5 then t.tmean else e.tmean,
    twarn := if g.getLsbD 5 then t.twarn else e.twarn,
    strict := if g.getLsbD 6 then p.strict else e.strict,
    trim := if g.getLsbD 7 then p.trim else e.trim,
    holdThreshold := if g.getLsbD 8 then clampThreshold p.holdThreshold else e.holdThreshold }

/-- R5. -/
def reqEditionSet (slot : Nat) (g : BitVec 16) (p : EditionParams) (s : State) : State × Reply :=
  match s.findEdition slot with
  | none => refuse .badSlot s
  | some (i, e) =>
    if e.state = .complete ∨ e.state = .closed then refuse .badState s
    else if g.getLsbD 0 && (s.labelAt p.label (some i)).isSome then refuse .duplicate s
    else if e.locked && (g.getLsbD 1 || g.getLsbD 2 || g.getLsbD 3) then refuse .locked s
    else if !setInRange g p then refuse .range s
    else match s.policySet (if g.getLsbD 4 then p.policy else 0) p.refset with
      | .error st => refuse st s
      | .ok r =>
        let e' := s.changedEdition e g p r
        let s := s.setEdition i e'
        accept (if e'.refset = e.refset then s else (s.releaseSet e.refset).useSet e'.refset) .empty

/-! ## Holding, releasing, closing and retiring -/

/-- R7. -/
def reqEditionHold (slot : Nat) (s : State) : State × Reply :=
  match s.findEdition slot with
  | none => refuse .badSlot s
  | some (i, e) =>
    if e.state = .opened ∨ e.state = .qualify then
      settled ((s.setEdition i { e with state := .held, requalify := e.requalify || e.state == .qualify }).stopEdition
        i .held) s .empty
    else refuse .badState s

/-- R8. -/
def reqEditionRelease (slot : Nat) (s : State) : State × Reply :=
  match s.findEdition slot with
  | none => refuse .badSlot s
  | some (i, e) =>
    if e.state ≠ .held then refuse .badState s
    else
      let e' := { e with fails := 0, requalify := false }
      if e.requalify || s.pinsDiffer e then
        settled ((s.setEdition i e').enterQualify i) s (.landing .qualify)
      else settled (s.setEdition i { e' with state := .opened }) s (.landing .opened)

/-- R9. -/
def reqEditionClose (slot : Nat) (s : State) : State × Reply :=
  match s.findEdition slot with
  | none => refuse .badSlot s
  | some (i, e) =>
    if e.state = .opened ∨ e.state = .qualify ∨ e.state = .held then
      settled ((s.setEdition i { e with state := .closed, requalify := false }).stopEdition i .cancelled) s .empty
    else refuse .badState s

/-- R10, check 3: a ticket in CLOSED_GOOD or CLOSED_SPOILED names the slot. -/
def State.uncollected (s : State) (i : EditionId) : Bool :=
  (List.finRange 8).any fun t =>
    match s.ticket t with
    | some k => k.edition == i && !k.state.unclosed
    | none => false

/-- R10. -/
def reqEditionRetire (slot : Nat) (s : State) : State × Reply :=
  match s.findEdition slot with
  | none => refuse .badSlot s
  | some (i, e) =>
    if e.state = .opened ∨ e.state = .qualify then refuse .badState s
    else if decide (0 < e.inFlight) || s.uncollected i then refuse .inUse s
    else accept ((s.freeEdition i).releaseSet e.refset) .empty

/-! ## EDITION_RESTORE -/

/-- The stated state of a record; none for FREE or an unknown code (R11). -/
def statedState : Nat → Option EditionState
  | 1 => some .opened
  | 2 => some .qualify
  | 3 => some .held
  | 4 => some .complete
  | 5 => some .closed
  | _ => none

/-- Strictly ascending. -/
def ascending : List Nat → Bool
  | a :: b :: rest => decide (a < b) && ascending (b :: rest)
  | _ => true

/-- The return list a record carries: its first places, as many as its length says. What the unused places
hold is not read (DESIGN CHOICE, log entry 54). -/
def returnsOf (r : RestoreRecord) : List Nat := r.returnPlaces.toList.take r.returnLength

/-- R11, check 4. -/
def recordInRange (r : RestoreRecord) (st : EditionState) : Bool :=
  sizeOk r.size && classOk r.mediaClass && channelsOk r.channels && within 1 (r.size + 1) r.next &&
  decide (r.returnLength ≤ 8) && ascending (returnsOf r) && ((returnsOf r).all fun n => within 1 (r.next - 1) n) &&
  r.good + (returnsOf r).length == r.next - 1 && decide (r.unverified ≤ r.good) &&
  !(r.good == r.size && (st == .opened || st == .qualify || st == .held)) &&
  !(st == .complete && r.good != r.size)

/-- R11: the record as stored, in its stated state, with requalify-pending as stated. -/
def storedRecord (r : RestoreRecord) (st : EditionState) (set : Option RefsetId) : Edition :=
  let t := clampTolerances r.tmax r.tmean r.twarn
  let channels := toChannels r.channels
  { label := r.label, state := st, size := r.size, next := r.next, good := r.good, spoiled := r.spoiled,
    unverified := r.unverified, returns := returnsOf r, inFlight := 0, mediaClass := r.mediaClass,
    channels := channels,
    pins := Vector.ofFn fun c =>
      if channels.getLsbD c.val && r.pinPresent.getLsbD c.val then some r.pins[c] else none,
    requalify := r.requalify, refset := set, tmax := t.tmax, tmean := t.tmean, twarn := t.twarn,
    strict := r.strict, trim := r.trim, holdThreshold := clampThreshold r.holdThreshold,
    fails := min 255 r.fails, locked := r.locked || decide (1 < r.next), goodCost := r.goodCost,
    spoilCost := r.spoilCost, goodInk := r.goodInk, goodMedia := r.goodMedia }

/-- R11: the landing state. -/
def State.landing (s : State) (e : Edition) : EditionState :=
  match e.state with
  | .opened => if e.requalify || s.pinsDiffer e then .qualify else .opened
  | st => st

/-- R11. -/
def reqEditionRestore (slot : Nat) (r : RestoreRecord) (s : State) : State × Reply :=
  match asId 64 slot with
  | none => refuse .badSlot s
  | some i =>
    if (s.edition i).isSome then refuse .badState s
    else if (s.labelAt r.label none).isSome then refuse .duplicate s
    else match statedState r.state with
      | none => refuse .range s
      | some st =>
        if !recordInRange r st then refuse .range s
        else match s.policySet (if r.measure then 1 else 0) r.refset with
          | .error e => refuse e s
          | .ok set =>
            let e := storedRecord r st set
            let land := s.landing e
            let s := (s.setEdition i { e with
              state := land, requalify := e.requalify && land == .held }).useSet set
            accept (if land = .qualify then s.enterQualify i else s) (.landing land)

/-! ## Reading -/

/-- R3: EDITION_GET. -/
def reqEditionGet (slot : Nat) (s : State) : State × Reply :=
  match asId 64 slot with
  | none => refuse .badSlot s
  | some i => accept s (.edition (s.edition i))

/-- R3: EDITION_FIND. -/
def reqEditionFind (label : Nat) (s : State) : State × Reply :=
  match s.labelAt label none with
  | none => refuse .badSlot s
  | some i => accept s (.slot i.val)

end Sys2Proof.Machine
end

