-- ==== Sys2Proof/Machine/Engine.lean ====
section
/-! DEFINITION. The messages of the print engine, and the swath timer (07_the_print_engine_link.md): R129,
R133 to R136, R138, R139, R141, R143, R198. -/

namespace Sys2Proof.Machine

open Sys2Proof

/-! ## Requests for a swath -/

/-- A DENY answers a request that is refused (R129). An earlier request that is still pending stays so, also where
it names the same ticket, one that has become TRAVELLING (DEDUCED, log entry 51). -/
def State.deny (s : State) (t : TicketId) : State := s.emit (.engine (.deny t))

/-- R129, check 2: the named ticket may print. -/
def State.mayPrint (s : State) (t : TicketId) : Bool :=
  s.run.state != .engineWait && (match s.ticket t with | some k => k.state == .printing | none => false)

/-- R129. -/
def swathRequested (ticket step : Nat) (s : State) : State :=
  match asId 8 ticket with
  | none => s.protocolError.settle s
  | some t =>
    if !within 1 127 step then s.protocolError.settle s
    else if !s.mayPrint t then s.deny t
    else if s.engine.request.isSome then s.protocolError.settle s
    else
      (s.withEngine { s.engine with request := some { ticket := t, step := step, held := false } }).settle s

/-! ## The end of an operation -/

/-- R127: the outstanding operation becomes absent, and the swath timer stops. -/
def State.endOp (s : State) : State := s.withEngine { s.engine with op := none, swathTimer := none }

/-- R133, R138, R141: the mark of an outstanding swath is cleared. -/
def State.clearMark (s : State) (t : TicketId) : State := s.modTicket t fun k => { k with outstanding := false }

/-- R28, R133: the ticket's swath count rises, and the mark is cleared. -/
def State.countSwath (s : State) (t : TicketId) : State :=
  s.modTicket t fun k => { k with swathCount := satAdd 65535 k.swathCount 1, outstanding := false }

/-- R36: a request that was held while the swath count was 0 starts the pause timer of a PRINTING ticket at
the report that makes it 1, "if the request is still held then": it is while its held flag is set, which R130
keeps so until the request is answered, though every hold has cleared (DEDUCED, log entry 42). -/
def State.firstSwathPause (s : State) (t : TicketId) : State :=
  match s.ticket t, s.engine.request with
  | some k, some q =>
    if q.ticket = t && q.held && k.swathCount == 1 then s.startPause t else s
  | _, _ => s

/-- R133, step 5: the owed feed after a swath of allowance a that fed f. -/
def State.owedAfterSwath (s : State) (t : TicketId) (a f : Nat) : State :=
  match s.ticket t with
  | none => s
  | some k =>
    match k.state with
    | .cancelling => s.withEngine { s.engine with owed := owedOf t (k.l - k.fed) }
    | .printing =>
      if f < a then
        let n := match s.engine.owed with
          | some (_, n) => n
          | none => 0
        s.withEngine { s.engine with owed := owedOf t (n + (a - f)) }
      else s
    | _ => s

/-- R135: a position slip. -/
def State.slip (s : State) : State := s.stopNow .slip .engine

/-- R133, steps 1 to 4, with R36, R40 and R58. -/
def State.takeSwath (s : State) (t : TicketId) (f : Nat) (counts : Vector DropCounts 12) : State :=
  let s := ((s.endOp.countSwath t).reload .bySwath).firstSwathPause t
  ((s.meterSwath t counts).takeFed (some t) f).recost t

/-- R133: an accepted report of a swath of ticket t with allowance a. -/
def State.swathReported (s : State) (t : TicketId) (a : Nat) (aborted : Bool) (f : Nat)
    (counts : Vector DropCounts 12) : State :=
  let s := s.takeSwath t f counts
  let s := if aborted then s else s.owedAfterSwath t a f
  if a < f && !(aborted && s.run.state == .halted) then s.slip else s

/-- R133. In ENGINE_WAIT nothing is outstanding, and the message is discarded (R140). -/
def swathDone (ticket f : Nat) (counts : Vector DropCounts 12) (s : State) : State :=
  match s.engine.op with
  | some ⟨.swath t a, aborted⟩ =>
    if ticket = t.val then (s.swathReported t a aborted f counts).settle s else s.protocolError.settle s
  | _ => s.protocolError.settle s

/-- R134, step 2: the owed feed falls by the fed length of a FEED that was not aborted. R137 took an aborted
one's owed feed away with its ticket, and a feed owed since then is another's (DEDUCED, log entry 24). -/
def EngineLink.payOwed (l : EngineLink) (aborted : Bool) (f : Nat) : EngineLink :=
  match l.owed with
  | some (t, n) => if aborted then l else { l with owed := owedOf t (n - f) }
  | none => l

/-- R134, step 3: the ticket a FEED served: the owed feed's, where it is still owed. An aborted one served
none that is left (DEDUCED, log entry 24). -/
def EngineLink.servedBy (l : EngineLink) (aborted : Bool) : FeedPurpose → Option TicketId
  | .owed _ => if aborted then none else l.owed.map (·.1)
  | .eject => none

/-- R134: an accepted report of a FEED; an aborted owed FEED's fed length moves P and the roll alone
(DEDUCED, log entry 24), also where tickets admitted since reserve the roll and R113's slack falls below 0 (log
entry 47). -/
def State.feedReported (s : State) (asked : Nat) (p : FeedPurpose) (aborted : Bool) (f : Nat) : State :=
  let served := s.engine.servedBy aborted p
  let s := s.endOp
  let s := match p with
    | .owed _ => s.withEngine (s.engine.payOwed aborted f)
    | .eject => s
  let s := s.takeFed served f
  if asked < f && !aborted then s.slip else s

/-- R134. -/
def feedDone (f : Nat) (s : State) : State :=
  match s.engine.op with
  | some ⟨.feed n p, aborted⟩ => (s.feedReported n p aborted f).settle s
  | _ => s.protocolError.settle s

/-! ## Head-care reports -/

/-- The flags of a channel set become absent (R178, R180, R181). -/
def State.clearFlags (s : State) (set : ChannelSet) : State :=
  s.withRun { s.run with
    needsPurge := Vector.ofFn fun c => if set.getLsbD c.val then none else s.run.needsPurge[c] }

/-- R178, R180, R181: the end of a purge, by its kind. An aborted wake or single-channel purge clears
nothing; a manual purge's report clears its flags. -/
def State.purgeEnded (s : State) (kind : Option HeadOp) (set : ChannelSet) (aborted : Bool) : State :=
  match kind with
  | some (.purge .wake) => if aborted then s else (s.clearFlags set).wakeEnd
  | some (.purge (.single _)) => if aborted then s else s.clearFlags set
  | some (.purge .manual) => s.clearFlags set
  | _ => s

/-- The operation in the head-care slot. -/
def RunRecord.slotOp (r : RunRecord) : Option HeadOp := r.slot.map (·.op)

/-- R60, R136: an accepted report of a PURGE. -/
def State.purgeReported (s : State) (set : ChannelSet) (aborted : Bool) (volumes : Vector Nat 12) : State :=
  let kind := s.run.slotOp
  ((s.endOp.emptySlot).chargePurge volumes).purgeEnded kind set aborted

/-- R136. -/
def purgeDone (volumes : Vector Nat 12) (s : State) : State :=
  match s.engine.op with
  | some ⟨.purge set _, aborted⟩ => (s.purgeReported set aborted volumes).settle s
  | _ => s.protocolError.settle s

/-- R136, R176. -/
def parkDone (s : State) : State :=
  match s.engine.op with
  | some ⟨.park, _⟩ => s.endOp.emptySlot.settle s
  | _ => s.protocolError.settle s

/-- R136, R176. -/
def capDone (s : State) : State :=
  match s.engine.op with
  | some ⟨.cap, _⟩ => s.endOp.emptySlot.settle s
  | _ => s.protocolError.settle s

/-- R177: at the report of the wake's UNCAP its step becomes PURGE. The report of an aborted one belongs to
no wake (log entry 21). -/
def State.uncapped (s : State) (aborted : Bool) : State :=
  match s.run.wake with
  | some (lvl, .uncap) => if aborted then s else s.withRun { s.run with wake := some (lvl, .purge) }
  | _ => s

/-- R136, R177. -/
def uncapDone (s : State) : State :=
  match s.engine.op with
  | some ⟨.uncap, aborted⟩ => (s.endOp.emptySlot.uncapped aborted).settle s
  | _ => s.protocolError.settle s

/-! ## Faults, restarts and time -/

/-- R139. -/
def engineFaulted (code : Nat) (s : State) : State :=
  (((s.withEngine { s.engine with lastFault := some code }).raise .engineFault).stopNow .fault .engine).settle s

/-- R140, R198: a malformed frame on the engine link. -/
def engineFrameDiscarded (s : State) : State := s.protocolError.settle s

/-- R138, R141: the outstanding operation is lost or abandoned: a swath's mark is cleared, and a head-care
operation leaves its slot. -/
def State.loseOp (s : State) : State :=
  match s.engine.op with
  | none => s.endOp
  | some o =>
    let s' := s.endOp
    match o.kind with
    | .swath t _ => s'.clearMark t
    | .feed _ _ => s'
    | .purge _ _ | .park | .cap | .uncap => s'.emptySlot

/-- R138: the swath timer's expiry; a stopped timer does not expire. -/
def swathTimerExpired (s : State) : State :=
  match s.engine.swathTimer, s.engine.op with
  | some _, some o =>
    if o.aborted then (s.loseOp.raise .engineFault).settle s
    else ((s.raise .engineFault).stopNow .swathTimeout .engine).settle s
  | _, _ => s

/-- R141, R173: the engine has started; the run leaves ENGINE_WAIT for CAPPED. -/
def State.engineStarted (s : State) : State := (s.enterRun .capped).writeBackFeeding

/-- R141: the engine has restarted. -/
def State.engineRestarted (s : State) : State :=
  let s := s.loseOp
  let s := s.withEngine { s.engine with request := none, owed := none }
  s.stopNow .restart .engine

/-- R141. -/
def engineReadied (s : State) : State :=
  if s.run.state = .engineWait then s.engineStarted.settle s else s.engineRestarted.settle s

/-- R143. -/
def reqEngineGet (s : State) : State × Reply :=
  accept s (.engine s.engine (match s.engine.request with | some q => s.holds q.ticket | none => []))

end Sys2Proof.Machine
end

