-- ==== Sys2Proof/Machine/Rolls.lean ====
section
/-! DEFINITION. The roll and path requests, the roll lines, and the eject (06_rolls_and_the_media_path.md):
R103 to R106, R108, R109, R121 to R124. -/

namespace Sys2Proof.Machine

open Sys2Proof

/-! ## Requests on rolls -/

/-- R103, R106: a ticket of the roll carries the mark of an outstanding swath. -/
def State.rollOwesReport (s : State) (r : RollId) : Bool :=
  (List.finRange 8).any fun t =>
    match s.ticket t with
    | some k => k.roll == r && k.outstanding
    | none => false

/-- The roll is ACTIVE. -/
def State.isActive (s : State) (r : RollId) : Bool :=
  match s.roll r with
  | some x => x.state == .active
  | none => false

/-- R103. -/
def reqRollLoad (roll mediaClass width remaining price : Nat) (s : State) : State × Reply :=
  match asId 2 roll with
  | none => refuse .badSlot s
  | some r =>
    if s.isActive r then refuse .badState s
    else if s.rollOwesReport r then refuse .busy s
    else if !classOk mediaClass || !within 254 1626 width || decide (300000 < remaining) then refuse .range s
    else if !s.media.mediaPresent[r] || s.media.rollEnd[r] then refuse .noMedia s
    else
      settled ((s.setRoll r (some
        { state := .loaded, mediaClass := mediaClass, width := width, remaining := remaining,
          price := min 10000000 price, threshold := 2000 })).reload .byRoll) s .empty

/-- R104: the supplied groups replace the stored values. -/
def Roll.changed (x : Roll) (g : BitVec 8) (price threshold : Nat) : Roll :=
  { x with
    price := if g.getLsbD 0 then min 10000000 price else x.price,
    threshold := if g.getLsbD 1 then min 300000 threshold else x.threshold }

/-- R104, R110: a threshold change that passes the remaining length of the ACTIVE roll. -/
def lowPassed (x y : Roll) : Bool :=
  x.state == .active && decide (x.threshold < x.remaining) && decide (x.remaining ≤ y.threshold)

/-- R104. -/
def reqRollSet (roll : Nat) (g : BitVec 8) (price threshold : Nat) (s : State) : State × Reply :=
  match asId 2 roll with
  | none => refuse .badSlot s
  | some r =>
    match s.roll r with
    | none => refuse .badState s
    | some x =>
      let y := x.changed g price threshold
      accept ((s.setRoll r (some y)).raiseIf (lowPassed x y) .rollLow) .empty

/-- R105: an ACTIVE roll becomes LOADED. -/
def State.deactivate (s : State) : State :=
  match s.activeRoll with
  | none => s
  | some r =>
    match s.roll r with
    | none => s
    | some x => s.setRoll r (some { x with state := .loaded })

/-- R105: the eject timer is stopped, and the eject ends. -/
def State.endEject (s : State) : State := s.withMedia { s.media with ejectTimer := none, eject := false }

/-- R105: an accepted selection. The ROLL_LOW test is made for the new active roll, the one that was ACTIVE
already included (DEDUCED, log entry 46). -/
def State.selectRoll (s : State) (r : RollId) (x : Roll) : State :=
  let s := s.deactivate.setRoll r (some { x with state := .active })
  let s := s.withMedia { s.media with position := 0, pathEnd := -750 }
  s.endEject.raiseIf (decide (x.remaining ≤ x.threshold)) .rollLow

/-- R105, R106: both queues are empty and the engine has no granted swath or FEED. -/
def State.pathBusy (s : State) : Bool :=
  !s.desk.admitted.isEmpty || !s.desk.path.isEmpty || s.engine.mediaBusy

/-- R105. -/
def reqRollSelect (roll : Nat) (s : State) : State × Reply :=
  match asId 2 roll with
  | none => refuse .badSlot s
  | some r =>
    match s.roll r with
    | none => refuse .badState s
    | some x =>
      if x.state = .ended then refuse .badState s
      else if s.pathBusy then refuse .busy s
      else if !s.media.mediaPresent[r] then refuse .noMedia s
      else settled (s.selectRoll r x) s .empty

/-- R106, R122: an unload of either roll stops the eject timer and ends the eject (log entry 20). -/
def reqRollUnload (roll : Nat) (s : State) : State × Reply :=
  match asId 2 roll with
  | none => refuse .badSlot s
  | some r =>
    match s.roll r with
    | none => refuse .badState s
    | some _ =>
      if s.rollOwesReport r || (s.isActive r && s.pathBusy) then refuse .busy s
      else settled (s.setRoll r none).endEject s .empty

/-- R124. -/
def reqRollGet (roll : Nat) (s : State) : State × Reply :=
  match asId 2 roll with
  | none => refuse .badSlot s
  | some r => accept s (.roll (s.roll r) s.media.mediaPresent[r] s.media.rollEnd[r] (s.reservation r))

/-! ## The eject -/

/-- R121. -/
def reqEjectDelaySet (delay : Nat) (s : State) : State × Reply :=
  let d := clampOrZero 10 3600 delay
  settled (s.withMedia { s.media with ejectDelay := d }) s (.ejectDelay d)

/-- R123. The checks come first: one that fails refuses an EJECT also while the eject is active (DEDUCED, log
entry 53). -/
def reqEject (s : State) : State × Reply :=
  if s.desk.path.isEmpty then refuse .badState s
  else if !s.desk.admitted.isEmpty || !s.pathFed then refuse .busy s
  else settled (s.withMedia { s.media with eject := true }) s .empty

/-- R121, R122: the eject timer's expiry. -/
def ejectTimerExpired (s : State) : State :=
  match s.media.ejectTimer with
  | none => s
  | some _ => (s.withMedia { s.media with eject := true, ejectTimer := none }).settle s

/-- R124. -/
def reqPathGet (s : State) : State × Reply :=
  accept s (.path s.activeRoll s.media.position s.media.pathEnd s.media.ejectDelay s.media.ejectTimer
    s.media.eject s.media.stops)

/-! ## The roll lines -/

def State.setRollEnd (s : State) (r : RollId) (level : Bool) : State :=
  s.withMedia { s.media with rollEnd := put s.media.rollEnd r level }

def State.setMediaPresent (s : State) (r : RollId) (level : Bool) : State :=
  s.withMedia { s.media with mediaPresent := put s.media.mediaPresent r level }

/-- A roll whose tail was reached (R102). -/
def Roll.ended (x : Roll) : Roll := { x with state := .ended, remaining := 0 }

/-- R108: the active roll ends. -/
def State.endActive (s : State) (r : RollId) (x : Roll) : State :=
  (((s.setRoll r (some x.ended)).raise .rollEnd).endEject).stopNow .rollEnd .rollEnd

/-- R108, R109: the roll-end line has risen. -/
def State.tailRose (s : State) (r : RollId) : State :=
  match s.roll r with
  | none => s
  | some x =>
    match x.state with
    | .active => s.endActive r x
    | .loaded => (s.setRoll r (some x.ended)).raise .rollEnd
    | .ended => s

/-- R108, R109: the media-present line has fallen. -/
def State.mediaFell (s : State) (r : RollId) : State :=
  match s.roll r with
  | none => s
  | some x => if x.state = .active then s.endActive r x else s

/-- R108, R109. -/
def rollEndLineRose (r : RollId) (s : State) : State := ((s.setRollEnd r true).tailRose r).settle s
/-- R109. -/
def rollEndLineFell (r : RollId) (s : State) : State := s.setRollEnd r false
/-- R108, R109. -/
def mediaPresentFell (r : RollId) (s : State) : State := ((s.setMediaPresent r false).mediaFell r).settle s
/-- R109. -/
def mediaPresentRose (r : RollId) (s : State) : State := s.setMediaPresent r true

end Sys2Proof.Machine
end

