-- ==== Sys2Proof/Machine/Run.lean ====
section
/-! DEFINITION. The idle timers and the run requests (10_run_states_head_care_and_stopping.md): R174, R176,
R179, R181 to R185. -/

namespace Sys2Proof.Machine

open Sys2Proof

/-! ## Idle timers -/

/-- R174. -/
def reqIdleTimersSet (doze cap : Nat) (sources : BitVec 8) (s : State) : State × Reply :=
  let d := clampOrZero 30 3600 doze
  let c := clampOrZero 60 86400 cap
  let set := toSources sources
  accept (s.withRun { s.run with dozeLimit := d, capLimit := c, reload := set }) (.idleTimers d c set)

/-- R176: the run becomes DOZE. -/
def State.enterDoze (s : State) : State := s.withRun ((s.run.settleHeads .park).enter .doze)

/-- R176: the run becomes CAPPED. -/
def State.enterCapped (s : State) : State :=
  (s.withRun ((s.run.settleHeads .cap).enter .capped)).writeBackFeeding

/-- R176: the doze timer's expiry. -/
def dozeTimerExpired (s : State) : State :=
  match s.run.dozeTimer with
  | none => s
  | some _ => s.enterDoze.settle s

/-- R176: the cap timer's expiry. -/
def capTimerExpired (s : State) : State :=
  match s.run.capTimer with
  | none => s
  | some _ => s.enterCapped.settle s

/-! ## Purges -/

/-- R179. -/
def reqPurgeVolumesSet (level : Nat) (volumes : Vector Nat 12) (s : State) : State × Reply :=
  let v := Vector.ofFn fun c : Fin 12 => min 2000000 volumes[c]
  match toLevel level with
  | none => refuse .range s
  | some .light => accept (s.withRun { s.run with lightVolumes := v }) (.purgeVolumes v)
  | some .heavy => accept (s.withRun { s.run with heavyVolumes := v }) (.purgeVolumes v)

/-- R181, check 3: a manual purge is held, or stands in the head-care slot. -/
def RunRecord.manualBusy (r : RunRecord) : Bool := r.manual.isSome || r.slot.map (·.op) == some (.purge .manual)

/-- R181. -/
def reqPurge (channels : BitVec 16) (level : Nat) (s : State) : State × Reply :=
  match toLevel level with
  | none => refuse .range s
  | some lvl =>
    if !channelsOk channels then refuse .range s
    else if !s.run.state.open_ then refuse .badState s
    else if s.run.manualBusy then refuse .busy s
    else settled (s.withRun { s.run with manual := some (toChannels channels, lvl) }) s .empty

/-! ## Stopping and resuming -/

/-- R182. -/
def reqStopDrain (s : State) : State × Reply :=
  match s.run.state with
  | .engineWait | .halted => refuse .badState s
  | .running => settled (s.enterRun .draining).drainEject s .empty
  | .waking => accept (s.withRun { s.run with resumeWait := true }) .empty
  | .idle | .doze | .capped | .paused | .draining => accept s .empty

/-- R183. -/
def reqStopNow (s : State) : State × Reply :=
  if s.run.state = .engineWait then refuse .badState s
  else settled (s.stopNow .stop .stopped) s .empty

/-- R184: the path is declared cleared. -/
def State.clearPath (s : State) : State :=
  let s := s.withMedia { s.media with pathEnd := (s.media.position : Int) - 750 }
  s.withRun { s.run with protocolError := false }

/-- R184: a run resumed into DOZE, with the cap timer loaded. -/
def State.resumeDoze (s : State) : State :=
  let s := s.enterRun .doze
  s.withRun { s.run with capTimer := loadSeconds s.run.capLimit }

/-- R184: the run leaves HALTED by the heads at halt. -/
def State.leaveHalt (s : State) : State :=
  match s.run.headsAtHalt with
  | some .unpurged => s.resumeDoze
  | some .covered => (s.enterRun .capped).writeBackFeeding
  | _ => s.enterRun .idle

/-- R184: resume-wait is cleared. -/
def State.endWait (s : State) : State := s.withRun { s.run with resumeWait := false }

/-- R184. -/
def reqResume (cleared : Bool) (s : State) : State × Reply :=
  match s.run.state with
  | .halted => if cleared then settled s.clearPath.leaveHalt s .empty else refuse .badState s
  | .paused => settled s.endWait.enterRunning s .empty
  | .doze | .capped => if s.run.resumeWait then settled s.endWait.startWake s .empty else refuse .badState s
  | .engineWait | .idle | .running | .draining | .waking => refuse .badState s

/-- R185: the channel set and volumes of the purge in the head-care slot, which are fixed as it is sent (R175)
and stand in the outstanding operation. -/
def State.slotPurge (s : State) : Option (ChannelSet × Vector Nat 12) :=
  match s.run.slot, s.engine.op with
  | some ⟨.purge _, true⟩, some ⟨.purge set volumes, _⟩ => some (set, volumes)
  | _, _ => none

/-- R185: the run record as it is reported. The want of a PARK or CAP not yet presented is no item of the
reply. -/
def reqRunGet (s : State) : State × Reply := accept s (.run { s.run with wanted := none } s.slotPurge)

end Sys2Proof.Machine
end

