-- ==== Sys2Proof/Machine/Tanks.lean ====
section
/-! DEFINITION. The ink supply controller's events and requests: reading and validating a tag, presence, the
switch timer, the end of a write, the date, and the tank and channel requests
(04_ink_channels_and_tanks.md). -/

namespace Sys2Proof.Machine

open Sys2Proof

/-! ## Reading and validating a tag -/

/-- The tag image of R68 and 12.4, its fields as carried. -/
structure TagImage where
  format : Nat
  kind : Nat
  lot : Nat
  capacity : Nat
  fill : Nat
  price : Nat
  expiry : Nat
deriving DecidableEq, Repr

/-- The fields of a 20-byte image (12.4). -/
def tagImage (b : List Byte) : TagImage :=
  { format := field b 0 1, kind := field b 1 1, lot := field b 2 4, capacity := field b 6 2, fill := field b 8 4,
    price := field b 12 3, expiry := field b 15 2 }

/-- Test 1 of R68: the image CRC carried is that of bytes 0..17. -/
def imageCrcOk (b : List Byte) : Bool := field b 18 2 == (crc16 (b.take 18)).toNat

/-- The kind code of a channel (00_scope.md: channel c has kind c + 1). -/
def kindOf (c : ChannelId) : Nat := c.val + 1

/-- The outcomes of R68's tests. -/
inductive ImageVerdict where
  | rejectedBare (reason : BareReason)
  | rejectedKind
  | rejectedExpired
  | valid
deriving DecidableEq, Repr

/-- R68, test 5; R84: a date past an expiry day. -/
def pastExpiry (date expiry : Nat) : Bool := date != 0 && expiry != 0 && decide (expiry < date)

/-- R68: the image's tests in their order; the one valid format byte is 5Ah (12.4). -/
def validate (b : List Byte) (c : ChannelId) (date : Nat) : ImageVerdict :=
  let i := tagImage b
  if !imageCrcOk b then .rejectedBare .check
  else if i.format ≠ 0x5A then .rejectedBare .format
  else if !within 150 1000 i.capacity then .rejectedBare .format
  else if i.kind ≠ kindOf c then .rejectedKind
  else if pastExpiry date i.expiry then .rejectedExpired
  else .valid

/-- R69, R83: the fill that is stored from an image. -/
def storedFill (i : TagImage) (remembered : Option Nat) : Nat :=
  let f := min (mlToNl i.capacity) i.fill
  match remembered with
  | none => f
  | some m => min f m

/-- R69: the record stored from an image. A rejected record's last-written fill and write mark are its fill
too (log entry 18). -/
def recordFrom (i : TagImage) (remembered : Option Nat) : TankRecord :=
  let f := storedFill i remembered
  { kind := i.kind, lot := i.lot, capacity := i.capacity, fill := f, price := min 10000000 i.price,
    expiry := i.expiry, lastWritten := f, writeMark := f, stale := false, expired := false,
    releasePending := false }

/-- The fill remembered in a READING slot (R66). -/
def TankSlot.remembered : TankSlot → Option Nat
  | .reading m => m
  | .rejectedBare _ m => m
  | _ => none

/-- R68: an entry into REJECTED that stores no fill. -/
def State.rejectBare (s : State) (t : TankId) (r : BareReason) : State :=
  (s.setTank t (.rejectedBare r (s.tank t).remembered)).raise .tankRejected

/-- R68, R69, R83: an image received for a slot. -/
def State.takeImage (s : State) (t : TankId) (b : List Byte) : State :=
  let r := recordFrom (tagImage b) (s.tank t).remembered
  match validate b (channelOf t) s.date with
  | .rejectedBare x => s.rejectBare t x
  | .rejectedKind => (s.setTank t (.held .rejectedKind r)).raise .tankRejected
  | .rejectedExpired => (s.setTank t (.held .rejectedExpired r)).raise .tankRejected
  | .valid =>
    if r.fill = 0 then s.setTank t (.held .depleted r)
    else (s.setTank t (.held .standby r)).switchTest (channelOf t)

/-! ## The end of a write -/

/-- R81: the end of a WRITE carrying a fill, written or failed. -/
def HeldState.afterWrite (st : HeldState) (releasing : Bool) : HeldState := if releasing then .released else st

def State.writeEnded (s : State) (t : TankId) (fill : Nat) (written : Bool) : State :=
  match s.tank t with
  | .held st r =>
    let r' := if written then { r with lastWritten := fill, stale := false } else { r with stale := true }
    s.setTank t (.held (st.afterWrite r.releasePending) { r' with releasePending := false })
  | _ => s

/-! ## Presence -/

def State.setPresence (s : State) (t : TankId) (level : Bool) : State :=
  s.withSupply { s.supply with presence := put s.supply.presence t level }

/-- R67: a presence rise; on a slot that is not EMPTY it changes no record. -/
def State.seatTank (s : State) (t : TankId) : State :=
  match s.tank t with
  | .empty => ((s.setTank t (.reading none)).queueTag t .read).reload .byTank
  | _ => s

/-- R99: what a presence fall does on the bus. -/
def TagBus.fall (b : TagBus) (t : TankId) : TagBus :=
  let b := { b with waiting := put b.waiting t none, images := put b.images t none }
  match b.phase with
  | .request tx => if tx.slot = t then { b with phase := .guard 5 } else b
  | .turnaround tx _ => if tx.slot = t then { b with phase := .guard 5 } else b
  | _ => b

/-- R78: what follows for the channel of a removed slot; `feed` is the channel's before the removal. -/
def State.afterRemoval (s : State) (c : ChannelId) (x : Side) : State :=
  match (s.channel c).feed with
  | .fed y => if x = y then s.loseFeeding c else s
  | .switching y _ => if x = y then s.abandonSwitch c else s
  | .starved => s

/-- R78, R99: a presence fall. -/
def State.removeTank (s : State) (t : TankId) : State :=
  match s.tank t with
  | .empty => s
  | _ =>
    let s := s.withTags (s.tags.fall t)
    let s := (s.setTank t .empty).raise .tankRemoved
    s.afterRemoval (channelOf t) (sideOf t)

/-- R67. -/
def presenceRose (t : TankId) (s : State) : State := ((s.setPresence t true).seatTank t).settle s

/-- R78, R99. -/
def presenceFell (t : TankId) (s : State) : State := ((s.setPresence t false).removeTank t).settle s

/-! ## The switch timer -/

/-- R72, steps 1 and 2: the incoming slot feeds. -/
def State.feedFrom (s : State) (c : ChannelId) (x : Side) (r : TankRecord) : State :=
  let s := s.setTank (tankOf c x) (.held .feeding r)
  s.setChannel c { s.channel c with feed := .fed x, lastPrice := r.price }

/-- R72. -/
def State.completeSwitch (s : State) (c : ChannelId) (x : Side) : State :=
  match (s.tank (tankOf c x)).record with
  | none => s
  | some r =>
    let s := ((s.feedFrom c x r).leaveFeeding (tankOf c x.other)).feedingReport c r.lot
    (s.raiseIf (decide (r.fill ≤ mlToNl (s.channel c).floor)) .channelReserve).switchTest c

/-- R72: the switch timer's expiry; on a channel that is not SWITCHING it has no effect. -/
def switchExpired (c : ChannelId) (s : State) : State :=
  match (s.channel c).feed with
  | .switching x _ => (s.completeSwitch c x).settle s
  | _ => s

/-! ## The date -/

/-- R84: the EXPIRED flag of a FEEDING slot. -/
def State.flagExpired (s : State) (date : Nat) (t : TankId) : State :=
  match s.tank t with
  | .held .feeding r =>
    if pastExpiry date r.expiry then s.setTank t (.held .feeding { r with expired := true }) else s
  | _ => s

/-- R84: a STANDBY slot, without release pending, past its expiry. -/
def TankSlot.expires (x : TankSlot) (date : Nat) : Bool :=
  match x with
  | .held .standby r => pastExpiry date r.expiry && !r.releasePending
  | _ => false

/-- R84: such a slot is REJECTED. -/
def State.rejectExpired (s : State) (date : Nat) (t : TankId) : State :=
  match s.tank t with
  | .held .standby r =>
    if (s.tank t).expires date then (s.setTank t (.held .rejectedExpired r)).raise .tankRejected else s
  | _ => s

/-- R73, R84: a channel whose switch target was rejected abandons its switchover; `before` is the state
before the rejections. -/
def State.targetExpired (s before : State) (date : Nat) (c : ChannelId) : State :=
  match (s.channel c).feed with
  | .switching x _ => if (before.tank (tankOf c x)).expires date then s.abandonSwitch c else s
  | _ => s

/-- R84: the expiry treatment. Every FEEDING slot is flagged and every STANDBY one rejected before a
switchover is abandoned, so that none begins to a slot that the same date rejects (log entry 19). -/
def State.expire (s : State) (date : Nat) : State :=
  let flagged := (List.finRange 24).foldl (fun s t => s.flagExpired date t) s
  let rejected := (List.finRange 24).foldl (fun s t => s.rejectExpired date t) flagged
  (List.finRange 12).foldl (fun s c => s.targetExpired flagged date c) rejected

/-- R195. -/
def reqDateSet (day : Nat) (s : State) : State × Reply :=
  settled ((s.withDate day).expire day) s (.dates s.date day)

/-! ## Requests -/

/-- R82, check 2. -/
def TankSlot.releasable : TankSlot → Bool
  | .held st r =>
    match st with
    | .standby | .feeding | .spent | .depleted => !r.releasePending
    | _ => false
  | _ => false

/-- R82, check 3: the slot is the switch target or the outgoing slot of a switchover. The outgoing slot is the one
that is still FEEDING; "either slot" in R73's table is read as these two (DEDUCED, log entry 55). -/
def State.inSwitchover (s : State) (t : TankId) : Bool :=
  match (s.channel (channelOf t)).feed with
  | .switching x _ =>
    x == sideOf t || (match s.tank t with | .held .feeding _ => true | _ => false)
  | _ => false

/-- The slot is the feeding slot of its channel. -/
def State.feedsNow (s : State) (t : TankId) : Bool :=
  match (s.channel (channelOf t)).feed with
  | .fed x => x == sideOf t
  | _ => false

/-- R82: the release of a slot that holds a record. -/
def State.release (s : State) (t : TankId) : State :=
  let s := s.writeBack t
  let s := s.setTank t ((s.tank t).modRecord fun r => { r with releasePending := true })
  if s.feedsNow t then
    match s.tank t with
    | .held _ r => (s.setTank t (.held r.awayState r)).loseFeeding (channelOf t)
    | _ => s
  else s

/-- R82. -/
def reqTankRelease (slot : Nat) (s : State) : State × Reply :=
  match asId 24 slot with
  | none => refuse .badSlot s
  | some t =>
    if !(s.tank t).releasable then refuse .badState s
    else if s.inSwitchover t then refuse .busy s
    else if s.feedsNow t && s.somePrinting then refuse .inUse s
    else settled (s.release t) s .empty

/-- R83: the remembered fill a re-read sets; none of the slots it refuses. -/
def TankSlot.reread : TankSlot → Option (Option Nat)
  | .rejectedBare _ m => some m
  | .held .rejectedKind r => some (some r.fill)
  | .held .rejectedExpired r => some (some r.fill)
  | .held .released r => some (some r.fill)
  | _ => none

/-- R83. -/
def reqTankReread (slot : Nat) (s : State) : State × Reply :=
  match asId 24 slot with
  | none => refuse .badSlot s
  | some t =>
    match (s.tank t).reread with
    | none => refuse .badState s
    | some m => settled ((s.setTank t (.reading m)).queueTag t .read) s .empty

/-- R86. -/
def reqTankGet (slot : Nat) (s : State) : State × Reply :=
  match asId 24 slot with
  | none => refuse .badSlot s
  | some t => accept s (.tank (s.tank t))

/-- R85: a raised floor crosses the feeding fill. -/
def State.floorCrossed (s : State) (c : ChannelId) (floor : Nat) : Bool :=
  match (s.channel c).feed with
  | .fed x =>
    match (s.tank (tankOf c x)).record with
    | some r => decide (mlToNl (s.channel c).floor < r.fill) && decide (r.fill ≤ mlToNl floor)
    | none => false
  | _ => false

/-- R85. -/
def reqChannelSet (channel floor level : Nat) (s : State) : State × Reply :=
  match asId 12 channel with
  | none => refuse .badSlot s
  | some c =>
    if !within 1 100 floor || decide (floor < level) then refuse .range s
    else
      let low := s.floorCrossed c floor
      let s' := (s.setChannel c { s.channel c with floor := floor, level := level }).raiseIf low .channelReserve
      settled (s'.switchTest c) s .empty

/-- R66: the state of a tank slot. -/
def TankSlot.state : TankSlot → TankState
  | .empty => .empty
  | .reading _ => .reading
  | .rejectedBare _ _ => .rejected
  | .held st _ =>
    match st with
    | .standby => .standby
    | .feeding => .feeding
    | .spent => .spent
    | .depleted => .depleted
    | .rejectedKind | .rejectedExpired => .rejected
    | .released => .released

/-- R86. -/
def reqChannelGet (channel : Nat) (s : State) : State × Reply :=
  match asId 12 channel with
  | none => refuse .badSlot s
  | some c =>
    accept s (.channel (s.channel c) s.run.needsPurge[c] (s.tank (tankOf c .a)).state
      (s.tank (tankOf c .b)).state)

end Sys2Proof.Machine
end

