-- ==== Sys2Proof/Machine/TagBus.lean ====
section
/-! DEFINITION. The tag bus controller's events (05_the_tank_tag_bus.md): the end of a request frame, an
answer, the two timers, and the ends of READ and WRITE (R88, R91, R93 to R97, R99, R101). -/

namespace Sys2Proof.Machine

open Sys2Proof

/-- How an attempt without a usable answer ended (R94). -/
inductive Miss where
  | badFrame
  | noAnswer
deriving DecidableEq, Repr

/-- R91, R93: the transaction ends, and the bus is released. -/
def State.freeBus (s : State) : State := s.withTags { s.tags with phase := .idle }

/-- R93, R97: a WRITE's end. TAG_FAULT is raised for a failed one; the end is handed where nothing is pending
at the slot. -/
def State.endWrite (s : State) (t : TankId) (fill : Nat) (written : Bool) : State :=
  let s := s.freeBus.raiseIf (!written) .tagFault
  if s.tags.waiting[t].isNone then s.writeEnded t fill written else s

/-- R91, R93: an attempt that failed in a way that a retry can help: the second attempt, or the end. -/
def State.missed (s : State) (tx : TagTransaction) (m : Miss) : State :=
  if !tx.retry then s.retryTag tx
  else match tx.op, m with
    | .read, .badFrame => s.freeBus.rejectBare tx.slot .check
    | .read, .noAnswer => s.freeBus.rejectBare tx.slot .silent
    | .write fill, _ => s.endWrite tx.slot fill false

/-- R91: an accepted image: the copy of its bytes 0..17, and the validation. -/
def State.endImage (s : State) (t : TankId) (b : List Byte) : State :=
  let s := s.withTags { s.tags with phase := .idle, images := put s.tags.images t (some (b.take 18)) }
  s.takeImage t b

/-- R91, R93: an answer that was judged, for the transaction on the bus. -/
def State.answered (s : State) (tx : TagTransaction) (v : TagVerdict) : State :=
  match v, tx.op with
  | .image b, _ => s.endImage tx.slot b
  | .written, .write fill => s.endWrite tx.slot fill true
  | .unknownCommand, .read => s.freeBus.rejectBare tx.slot .format
  | .unknownCommand, .write fill => s.endWrite tx.slot fill false
  | .refused, .write fill => s.endWrite tx.slot fill false
  | _, _ => s.missed tx .badFrame

/-- R88: the last byte of the request frame has been sent. -/
def requestSentEvent (s : State) : State :=
  match s.tags.phase with
  | .request tx => s.withTags { s.tags with phase := .turnaround tx 5 }
  | _ => s

/-- R90, R91, R93: a whole answer frame. One that arrives outside TURNAROUND is discarded (R94). -/
def tagAnswerEvent (frame : List Byte) (s : State) : State :=
  match s.tags.phase with
  | .turnaround tx _ => (s.answered tx (judgeAnswer tx frame)).settle s
  | _ => s

/-- R94: the turnaround timer's expiry, with part of a frame held or nothing. -/
def turnaroundExpired (begun : Bool) (s : State) : State :=
  match s.tags.phase with
  | .turnaround tx _ => (s.missed tx (if begun then .badFrame else .noAnswer)).settle s
  | _ => s

/-- R99: the guard timer's expiry. -/
def guardExpired (s : State) : State :=
  match s.tags.phase with
  | .guard _ => s.freeBus.settle s
  | _ => s

/-- R101. -/
def reqTagbusGet (s : State) : State × Reply := accept s (.tagBus s.tags.phase s.tags.pointer s.tags.waiting)

end Sys2Proof.Machine
end

