-- ==== Sys2Proof/Machine/Tickets.lean ====
section
/-! DEFINITION. The ticket requests and the pause timer's expiry (02_admission_and_print_tickets.md): R12,
R13, R24, R25, R35 to R37, R41, R42. -/

namespace Sys2Proof.Machine

open Sys2Proof

/-! ## PRINT_ADMIT -/

/-- R12: a ticket of the edition marked qualifying has not closed. -/
def State.qualifierOpen (s : State) (i : EditionId) : Bool :=
  (List.finRange 8).any fun t =>
    match s.ticket t with
    | some k => k.edition == i && k.qualifying && k.state.unclosed
    | none => false

/-- R12: the edition has a number to give. -/
def Edition.hasNumber (e : Edition) : Bool := !e.returns.isEmpty || e.next != e.size + 1

/-- R13: the number that is issued. -/
def Edition.nextNumber (e : Edition) : Nat :=
  match e.returns with
  | n :: _ => n
  | [] => e.next

/-- R13, R6: the edition once it has issued its number. -/
def Edition.issued (e : Edition) : Edition :=
  match e.returns with
  | _ :: rest => { e with returns := rest, inFlight := e.inFlight + 1, locked := true }
  | [] => { e with next := e.next + 1, inFlight := e.inFlight + 1, locked := true }

/-- R12: the edition table's answer to an admission. -/
def State.numberFrom (s : State) (i : EditionId) : Except Status Edition :=
  match s.edition i with
  | none => .error .badSlot
  | some e =>
    match e.state with
    | .held | .complete | .closed => .error .badState
    | .opened => if e.hasNumber then .ok e else .error .noNumber
    | .qualify =>
      if s.qualifierOpen i then .error .qualifyBusy
      else if e.refset.isNone then .error .noRefset
      else if e.hasNumber then .ok e
      else .error .noNumber

/-- The run states in which an admission is refused (R24, check 2). -/
def RunState.admits : RunState → Bool
  | .engineWait | .draining | .halted => false
  | _ => true

/-- R24, check 4: the patch strip of a print of the edition. -/
def Edition.strip (e : Edition) : Nat := if e.refset.isSome || e.state == .qualify then 20 else 0

/-- The patch count of an edition: that of its reference set, 0 under NONE (R24, R25). -/
def State.patchCount (s : State) (e : Edition) : Nat :=
  match e.refset with
  | some r => (s.refset r).targets.length
  | none => 0

/-- The lowest-numbered FREE ticket slot (R25). -/
def State.freeSlot (s : State) : Option TicketId := (List.finRange 8).find? fun t => (s.ticket t).isNone

/-- What an admission that passes every check is made of. -/
structure Admission where
  edition : EditionId
  record : Edition
  id : TicketId
  roll : RollId
deriving DecidableEq, Repr

/-- R24, checks 6 to 8, on the active roll. -/
def State.rollFits (s : State) (e : Edition) (r : RollId) (x : Roll) (l : Nat) : Except Status Unit :=
  if x.mediaClass ≠ e.mediaClass then .error .wrongMedia
  else if e.strip = 20 && decide (x.width < s.patchCount e * 25 + 40) then .error .tooNarrow
  else if x.remaining < s.reservation r + 750 + l then .error .noMedia
  else .ok ()

/-- R24, checks 5 to 8. -/
def State.placeFor (s : State) (i : EditionId) (e : Edition) (l : Nat) : Except Status Admission :=
  match s.freeSlot with
  | none => .error .noTicket
  | some t =>
    match s.activeRoll with
    | none => .error .noMedia
    | some r =>
      match s.roll r with
      | none => .error .noMedia
      | some x =>
        match s.rollFits e r x l with
        | .error st => .error st
        | .ok () => .ok { edition := i, record := e, id := t, roll := r }

/-- R24: the checks of an admission, in their order. -/
def State.admissionCheck (s : State) (slot lm li lt : Nat) : Except Status Admission :=
  match asId 64 slot with
  | none => .error .badSlot
  | some i =>
    if !s.run.state.admits then .error .badState
    else match s.numberFrom i with
      | .error st => .error st
      | .ok e =>
        let l := lm + li + e.strip + lt
        if !within 0 500 lm || !within 50 29000 li || !within 10 500 lt || !within 150 30000 l then .error .range
        else s.placeFor i e l

/-- R25, steps 2 to 7: the ticket as admitted. -/
def State.newTicket (s : State) (a : Admission) (lm li lt : Nat) : Ticket :=
  let e := a.record
  { state := .admitted, serial := s.desk.serial, edition := a.edition, number := e.nextNumber,
    qualifying := e.state == .qualify, changeSeen := false, roll := a.roll, lm := lm, li := li, lp := e.strip,
    lt := lt, l := lm + li + e.strip + lt, start := none, oldEnd := 0, fed := 0, refset := e.refset,
    patches := s.patchCount e, tmax := e.tmax, tmean := e.tmean, twarn := e.twarn, strict := e.strict,
    trim := e.trim, swathCount := 0, outstanding := false, ink := Vector.replicate 12 0, acc := 0, fees := 0,
    lotMixed := false, overdraw := false, unverified := false, saturated := false, countClamped := false,
    verdict := .none, deMax := none, deMean := none, spoilCause := none, finalCost := none, pauseTimer := none }

/-- R25, steps 1 to 7. -/
def State.admitTicket (s : State) (a : Admission) (k : Ticket) : State :=
  let s := (s.setEdition a.edition a.record.issued).setTicket a.id k
  s.withDesk { s.desk with admitted := s.desk.admitted ++ [a.id], serial := (s.desk.serial + 1) % 65536 }

/-- R25, step 8, with R122, R173 and R177: the admission event at the media path and run controllers, and
the start test of R26. -/
def State.admissionEvent (s : State) : State :=
  let s := (s.withMedia { s.media with eject := false }).reload .byAdmission
  match s.run.state with
  | .idle => s.enterRunning
  | .doze | .capped => s.startWake
  | _ => s.startTest

/-- R24, R25. -/
def reqPrintAdmit (slot lm li lt : Nat) (s : State) : State × Reply :=
  match s.admissionCheck slot lm li lt with
  | .error st => refuse st s
  | .ok a =>
    let k := s.newTicket a lm li lt
    settled (s.admitTicket a k).admissionEvent s (.admission a.id k.serial k.number k.l k.qualifying)

/-! ## Cancellation and the pause limit -/

/-- R35, ADMITTED: the ticket is cancelled at no cost, and its slot freed. -/
def State.cancelAdmitted (s : State) (t : TicketId) (k : Ticket) : State :=
  let s := (s.modEdition k.edition (·.giveBack k.number)).freeTicket t
  (s.withDesk { s.desk with admitted := s.desk.admitted.erase t }).noTicketUnclosed

/-- R35, R37: a PRINTING ticket becomes CANCELLING. While a granted swath of it is outstanding its owed feed is
set at that swath's SWATH_DONE, at a pause expiry as at a cancellation (DEDUCED, log entry 50: R37 makes no such
case of its own). -/
def State.cancelPrinting (s : State) (t : TicketId) (k : Ticket) (cause : SpoilCause) : State :=
  let s := s.setTicket t
    { k with state := .cancelling, spoilCause := some cause, qualifying := false, pauseTimer := none }
  let s := (s.withdrawPatch t).denyRequest (· == t)
  if k.outstanding then s else s.withEngine { s.engine with owed := owedOf t (k.l - k.fed) }

/-- R35. -/
def reqTicketCancel (id : Nat) (s : State) : State × Reply :=
  match asId 8 id with
  | none => refuse .badSlot s
  | some t =>
    match s.ticket t with
    | none => refuse .badState s
    | some k =>
      match k.state with
      | .admitted => settled (s.cancelAdmitted t k) s .empty
      | .printing => settled (s.cancelPrinting t k .cancelled) s .empty
      | _ => refuse .badState s

/-- R36. -/
def reqPauseLimitSet (limit : Nat) (s : State) : State × Reply :=
  let x := min 600 limit
  accept (s.withDesk { s.desk with pauseLimit := x }) (.pauseLimit x)

/-- R37. The expiry of a timer that has stopped has no effect; a timer stops when its ticket becomes TRAVELLING
(DESIGN CHOICE, log entry 43). -/
def pauseExpired (t : TicketId) (s : State) : State :=
  match s.ticket t with
  | none => s
  | some k =>
    if k.state = .printing && k.pauseTimer.isSome then (s.cancelPrinting t k .pause).settle s else s

/-! ## Reading and collecting -/

/-- R41. -/
def reqTicketGet (id : Nat) (s : State) : State × Reply :=
  match asId 8 id with
  | none => refuse .badSlot s
  | some t => accept s (.statement t (s.ticket t))

/-- A ticket's row of TICKET_LIST (R41). -/
def Ticket.row (k : Ticket) : TicketRow :=
  { state := k.state, serial := k.serial, edition := k.edition, number := k.number }

/-- R41. -/
def reqTicketList (s : State) : State × Reply :=
  accept s (.ticketList ((List.finRange 8).map fun t => (s.ticket t).map Ticket.row) s.desk.admitted s.desk.path
    s.desk.pauseLimit)

/-- R42. -/
def reqTicketCollect (id : Nat) (s : State) : State × Reply :=
  match asId 8 id with
  | none => refuse .badSlot s
  | some t =>
    match s.ticket t with
    | none => refuse .badState s
    | some k =>
      if k.state.unclosed then refuse .badState s
      else if k.outstanding then refuse .busy s
      else accept (s.freeTicket t) (.statement t (some k))

end Sys2Proof.Machine
end

