-- ==== Sys2Proof/Machine/LinkOps.lean ====
section
/-! DEFINITION. The command link and the notices (11_the_command_link_and_notices.md): the notice requests,
LINK_SET, the block that takes each request, the execution of frames, the placing of reply frames, the
receipt of frames, and reset (R186 to R196). -/

namespace Sys2Proof.Machine

open Sys2Proof

/-! ## The link's own requests -/

/-- R194. -/
def reqNoticeRead (s : State) : State × Reply :=
  accept s (.notices s.notices.pending s.notices.enabled s.link.lastError)

/-- R194. -/
def reqNoticeClear (kinds : BitVec 24) (s : State) : State × Reply :=
  let set := toKinds kinds
  let s' := s.withNotices { s.notices with pending := s.notices.pending &&& ~~~set }
  let s' := if set &&& Notice.linkError.bit = 0 then s' else s'.withLink { s'.link with lastError := none }
  accept s' (.noticeSet s.notices.pending)

/-- R194. -/
def reqNoticeEnable (kinds : BitVec 24) (s : State) : State × Reply :=
  accept (s.withNotices { s.notices with enabled := toKinds kinds }) (.noticeSet (toKinds kinds))

/-- R196. -/
def reqLinkSet (limit : Option Nat) (s : State) : State × Reply :=
  let s := match limit with
    | some n => s.withLink { s.link with limit := clamp 16 256 n }
    | none => s
  accept s (.linkSettings s.link.limit s.date s.link.lastError s.link.freeCommand s.link.freeReply)

/-! ## The owning blocks -/

/-- R190, steps 3 and 4: the block that takes each request; an unknown code is answered UNKNOWN, and a body
that does not suit its code RANGE. -/
def handle (r : Request) (s : State) : State × Reply :=
  match r with
  | .unknownRequest _ _ => refuse .unknown s
  | .malformed _ => refuse .range s
  | .editionCreate slot p => reqEditionCreate slot p s
  | .editionSet slot g p => reqEditionSet slot g p s
  | .editionHold slot => reqEditionHold slot s
  | .editionRelease slot => reqEditionRelease slot s
  | .editionClose slot => reqEditionClose slot s
  | .editionRetire slot => reqEditionRetire slot s
  | .editionRestore slot x => reqEditionRestore slot x s
  | .editionGet slot => reqEditionGet slot s
  | .editionFind label => reqEditionFind label s
  | .printAdmit slot lm li lt => reqPrintAdmit slot lm li lt s
  | .ticketCancel id => reqTicketCancel id s
  | .ticketGet id => reqTicketGet id s
  | .ticketList => reqTicketList s
  | .ticketCollect id => reqTicketCollect id s
  | .pauseLimitSet n => reqPauseLimitSet n s
  | .dropVolumesSet c a b d => reqDropVolumesSet c a b d s
  | .feeSet a b => reqFeeSet a b s
  | .meterGet => reqMeterGet s
  | .houseGet => reqHouseGet s
  | .houseClear => reqHouseClear s
  | .tankRelease slot => reqTankRelease slot s
  | .tankReread slot => reqTankReread slot s
  | .tankGet slot => reqTankGet slot s
  | .channelSet c f l => reqChannelSet c f l s
  | .channelGet c => reqChannelGet c s
  | .tagbusGet => reqTagbusGet s
  | .rollLoad r m w n p => reqRollLoad r m w n p s
  | .rollSet r g p t => reqRollSet r g p t s
  | .rollSelect r => reqRollSelect r s
  | .rollUnload r => reqRollUnload r s
  | .rollGet r => reqRollGet r s
  | .ejectDelaySet d => reqEjectDelaySet d s
  | .eject => reqEject s
  | .pathGet => reqPathGet s
  | .engineGet => reqEngineGet s
  | .cutterClearMade => reqCutterClearMade s
  | .cutterClearRetry => reqCutterClearRetry s
  | .bladeFit n => reqBladeFit n s
  | .cutterGet => reqCutterGet s
  | .refsetLoad set n ts => reqRefsetLoad set n ts s
  | .refsetClear set => reqRefsetClear set s
  | .refsetGet set => reqRefsetGet set s
  | .sensorReset => reqSensorReset s
  | .sensorGet => reqSensorGet s
  | .idleTimersSet d c x => reqIdleTimersSet d c x s
  | .purgeVolumesSet l v => reqPurgeVolumesSet l v s
  | .purge x l => reqPurge x l s
  | .stopDrain => reqStopDrain s
  | .stopNow => reqStopNow s
  | .resume x => reqResume x s
  | .runGet => reqRunGet s
  | .noticeRead => reqNoticeRead s
  | .noticeClear x => reqNoticeClear x s
  | .noticeEnable x => reqNoticeEnable x s
  | .dateSet d => reqDateSet d s
  | .linkSet n => reqLinkSet n s

/-! ## Placing reply frames -/

/-- The first frame of a reply, with its header (R191, 12.1). Bit 0 of its last byte is the continued flag; the
spec says nothing of bits 1 to 7, which are sent as 0 (DESIGN CHOICE, log entry 57). -/
def ReplyInProgress.frame (p : ReplyInProgress) : List Byte :=
  let body := p.rest.take (p.limit - 6)
  toBytes 2 (body.length + 6) ++ toBytes 2 p.tag ++ toBytes 1 p.status.code ++
    [if p.limit - 6 < p.rest.length then 1 else 0] ++ body

/-- The reply once its first frame is placed: absent after its last (R191). -/
def ReplyInProgress.afterFrame (p : ReplyInProgress) : Option ReplyInProgress :=
  if p.limit - 6 < p.rest.length then some { p with rest := p.rest.drop (p.limit - 6) } else none

/-- R191: one frame of the reply in progress is placed, whole, where it fits. -/
def Link.placeFrame (l : Link) : Link :=
  match l.inProgress with
  | none => l
  | some p =>
    if p.frame.length ≤ l.freeReply then
      { l with reply := l.reply ++ p.frame, inProgress := p.afterFrame }
    else l

/-- R191: as many frames as fit; each placed frame is longer than 6 bytes but for the last, so 1024 suffice. -/
def Link.placeFrames : Nat → Link → Link
  | 0, l => l
  | n + 1, l =>
    match l.inProgress with
    | none => l
    | some p => if p.frame.length ≤ l.freeReply then Link.placeFrames n l.placeFrame else l

/-- Every frame that fits is placed. -/
def State.place (s : State) : State := s.withLink (s.link.placeFrames 1024)

/-! ## Execution -/

/-- R190, step 5: the reply becomes the reply in progress, under the limit that was in force, and its frames
are placed. -/
def State.answerWith (s : State) (tag limit : Nat) (r : Reply) : State :=
  let p : ReplyInProgress := { tag := tag, status := r.status, rest := r.body.bytes, limit := limit }
  ((s.emit (.reply tag r.status r.body)).withLink { s.link with inProgress := some p }).place

/-- R190: a frame is executed, having left the buffer. -/
def executeRequest (tag : Nat) (req : Request) (s : State) : State :=
  let r := handle req (s.reload .byRequest)
  r.1.answerWith tag s.link.limit r.2

/-- R189: frames are executed while both of its conditions hold, at most as many as are waiting. -/
def runFrames : Nat → State → State
  | 0, s => s
  | n + 1, s =>
    match s.link.command with
    | [] => s
    | f :: fs =>
      if s.link.ready then
        runFrames n (executeRequest f.tag f.request (s.withLink { s.link with command := fs }))
      else s

/-- R189: the test made where one of its conditions may have changed. -/
def State.runLink (s : State) : State := runFrames s.link.command.length s

/-! ## Receiving frames -/

/-- R188: a discarded frame. -/
def State.discardFrame (s : State) (e : LinkError) : State :=
  (s.withLink { s.link with lastError := some e }).raise .linkError

/-- R187: an accepted frame joins the command buffer, and R189 is tested. -/
def State.acceptFrame (s : State) (f : QueuedFrame) : State :=
  (s.withLink { s.link with command := s.link.command ++ [f] }).runLink

/-- The body length of a request's frame (12.1). -/
def bodyLengthOf : Request → Nat
  | .unknownRequest _ n => n
  | .malformed n => n
  | .editionCreate _ _ => 20
  | .editionSet _ _ _ => 22
  | .editionRestore _ _ => 118
  | .editionFind _ => 4
  | .printAdmit _ _ _ _ => 7
  | .pauseLimitSet _ => 2
  | .dropVolumesSet _ _ _ _ => 7
  | .feeSet _ _ => 8
  | .channelSet _ _ _ => 3
  | .rollLoad _ _ _ _ _ => 12
  | .rollSet _ _ _ _ => 10
  | .ejectDelaySet _ => 2
  | .bladeFit _ => 4
  | .refsetLoad _ _ ts => 2 + 6 * ts.length
  | .idleTimersSet _ _ _ => 7
  | .purgeVolumesSet _ _ => 49
  | .purge _ _ => 3
  | .noticeClear _ => 3
  | .noticeEnable _ => 3
  | .dateSet _ => 2
  | .linkSet none => 0
  | .linkSet (some _) => 2
  | .ticketList | .meterGet | .houseGet | .houseClear | .tagbusGet | .eject | .pathGet | .engineGet
  | .cutterGet | .sensorReset | .sensorGet | .runGet | .noticeRead => 0
  | .editionHold _ | .editionRelease _ | .editionClose _ | .editionRetire _ | .editionGet _
  | .ticketCancel _ | .ticketGet _ | .ticketCollect _ | .tankRelease _ | .tankReread _ | .tankGet _
  | .channelGet _ | .rollSelect _ | .rollUnload _ | .rollGet _ | .cutterClearMade | .cutterClearRetry
  | .refsetClear _ | .refsetGet _ | .stopDrain | .stopNow | .resume _ => 1

/-- A host request: its whole frame arrives in one transfer, which finds room for all of it, or is discarded
OVERRUN (R187, R188; log entry 5). -/
def deliver (tag : Nat) (r : Request) (s : State) : State :=
  let n := 6 + bodyLengthOf r
  let s := s.begin
  if n ≤ s.link.freeCommand then s.acceptFrame { length := n, tag := tag, request := r }
  else s.discardFrame .overrun

/-! ## Bytes and transfers -/

/-- The declared length, from the first two bytes clocked in (R187). -/
def Receipt.declared (r : Receipt) : Nat := ofBytes r.head

/-- R187, R188: whether the next byte of the transfer is kept where space is left: the two length bytes are,
and those after them where they announce a frame of a possible length. -/
def Receipt.keeps (r : Receipt) : Bool := decide (r.clocked < 2) || within 6 256 r.declared

/-- The receipt of a transfer that has begun. -/
def Link.receiptNow (l : Link) : Receipt :=
  l.receipt.getD { stored := [], head := [], clocked := 0, lost := false }

/-- R187, R188: one byte clocked in. A byte that finds no space is lost, and every later one with it. -/
def Link.byteIn (l : Link) (b : Byte) : Link :=
  let r := l.receiptNow
  let head := if r.clocked < 2 then r.head ++ [b] else r.head
  let r' := { r with head := head, clocked := r.clocked + 1 }
  if r.lost || !r.keeps then { l with receipt := some r' }
  else if l.freeCommand = 0 then { l with receipt := some { r' with lost := true } }
  else { l with receipt := some { r' with stored := r.stored ++ [b] } }

/-- R192: the byte clocked out: the oldest of the reply buffer, or FFh. -/
def Link.byteOut (l : Link) : Byte × Link :=
  match l.reply with
  | b :: bs => (b, { l with reply := bs })
  | [] => (0xFF, l)

/-- R187, R191, R192: one byte is clocked each way, reply frames that now fit are placed, and R189 is
tested. -/
def clockByte (b : Byte) (s : State) : State :=
  let l := (s.link.byteIn b).byteOut
  (((s.begin.withLink l.2).emit (.byte l.1)).place).runLink

/-- R188: the judgement of a transfer that carries a frame; none where the frame is accepted. -/
def Receipt.judge (r : Receipt) : Option LinkError :=
  if !within 6 256 r.declared || decide (r.declared < r.clocked) then some .length
  else if r.lost then some .overrun
  else if r.clocked < r.declared then some .short
  else none

/-- 12.1: the frame that the stored bytes spell. -/
def Receipt.toFrame (r : Receipt) : QueuedFrame :=
  { length := r.declared, tag := field r.stored 4 2,
    request := decodeRequest (field r.stored 2 2) (r.stored.drop 6) }

/-- R187, R188: the select rise that ends a transfer. -/
def selectRise (s : State) : State :=
  let s := s.begin
  match s.link.receipt with
  | none => s
  | some r =>
    let s := s.withLink { s.link with receipt := none }
    if r.clocked < 2 || r.declared == 0 then s
    else match r.judge with
      | some e => s.discardFrame e
      | none => s.acceptFrame r.toFrame

/-- R191: a later frame of the reply in progress is placed, where it fits; R189 is then tested. -/
def placeReplyFrame (s : State) : State := s.begin.place.runLink

/-! ## Reset -/

/-- R66: after reset each slot whose presence line is high is taken as a presence rise. -/
def State.seatPresent (s : State) : State :=
  (List.finRange 24).foldl (fun s t => if s.supply.presence[t] then s.seatTank t else s) s

/-- R144: the side after reset. -/
def Cutter.sideAtReset (c : Cutter) : CarriageEnd := if c.endLine && !c.homeLine then .farEnd else .homeEnd

/-- R186: power-on or the RESET line: every record takes its reset value; the input lines keep their levels. -/
def resetPart (s : State) : State :=
  let r := State.reset
  let c : Cutter :=
    { Cutter.reset with side := s.cutter.sideAtReset, homeLine := s.cutter.homeLine, endLine := s.cutter.endLine }
  let s' := ((r.withSupply { r.supply with presence := s.supply.presence }).withMedia { r.media with
    mediaPresent := s.media.mediaPresent, rollEnd := s.media.rollEnd }).withCutter c
  ((s'.withPending s.pending).seatPresent).serveTags

end Sys2Proof.Machine
end

