-- ==== Sys2Proof/Machine/Events.lean ====
section
/-! DEFINITION. The meanings of the events, one for each: the messages of the engine, the tags and the sensor
head, the lines, the timers, the bytes of the command link, and reset. Each begins with nothing sent. -/

namespace Sys2Proof.Machine

open Sys2Proof

/-- RESET: Power-on or the RESET line (R186). -/
def execReset (s : State) : Host.Outcome State Fault Refusal :=
  .next (resetPart s)

/-- FRAME_RECEIVE: The select rise that ends a transfer (R187, R188). -/
def execFrameReceive (s : State) : Host.Outcome State Fault Refusal :=
  .next (selectRise s)

/-- REPLY_FRAME_PLACE: A later frame of the reply in progress finds room (R191). -/
def execReplyFramePlace (s : State) : Host.Outcome State Fault Refusal :=
  .next (placeReplyFrame s)

/-- ENGINE_READY: R141. -/
def execEngineReady (s : State) : Host.Outcome State Fault Refusal :=
  .next (engineReadied s.begin)

/-- SWATH_REQUEST: R129. -/
def execSwathRequest (ticket : Nat) (step : Nat) (s : State) : Host.Outcome State Fault Refusal :=
  .next (swathRequested ticket step s.begin)

/-- SWATH_DONE: R133. -/
def execSwathDone (ticket : Nat) (fed : Nat) (counts : Vector DropCounts 12)
    (s : State) : Host.Outcome State Fault Refusal :=
  .next (swathDone ticket fed counts s.begin)

/-- FEED_DONE: R134. -/
def execFeedDone (fed : Nat) (s : State) : Host.Outcome State Fault Refusal :=
  .next (feedDone fed s.begin)

/-- PURGE_DONE: R136, R60. -/
def execPurgeDone (volumes : Vector Nat 12) (s : State) : Host.Outcome State Fault Refusal :=
  .next (purgeDone volumes s.begin)

/-- PARK_DONE: R136. -/
def execParkDone (s : State) : Host.Outcome State Fault Refusal :=
  .next (parkDone s.begin)

/-- CAP_DONE: R136. -/
def execCapDone (s : State) : Host.Outcome State Fault Refusal :=
  .next (capDone s.begin)

/-- UNCAP_DONE: R136. -/
def execUncapDone (s : State) : Host.Outcome State Fault Refusal :=
  .next (uncapDone s.begin)

/-- ENGINE_FAULT: R139. -/
def execEngineFault (code : Nat) (s : State) : Host.Outcome State Fault Refusal :=
  .next (engineFaulted code s.begin)

/-- ENGINE_FRAME_INVALID: A malformed engine-link frame (R198). -/
def execEngineFrameInvalid (s : State) : Host.Outcome State Fault Refusal :=
  .next (engineFrameDiscarded s.begin)

/-- SWATH_TIMER_EXPIRY: R138. -/
def execSwathTimerExpiry (s : State) : Host.Outcome State Fault Refusal :=
  .next (swathTimerExpired s.begin)

/-- PAUSE_EXPIRY: R37. -/
def execPauseExpiry (ticket : TicketId) (s : State) : Host.Outcome State Fault Refusal :=
  .next (pauseExpired ticket s.begin)

/-- SWITCH_TIMER_EXPIRY: R72. -/
def execSwitchTimerExpiry (channel : ChannelId) (s : State) : Host.Outcome State Fault Refusal :=
  .next (switchExpired channel s.begin)

/-- PRESENCE_RISE: R67. -/
def execPresenceRise (slot : TankId) (s : State) : Host.Outcome State Fault Refusal :=
  .next (presenceRose slot s.begin)

/-- PRESENCE_FALL: R78, R99. -/
def execPresenceFall (slot : TankId) (s : State) : Host.Outcome State Fault Refusal :=
  .next (presenceFell slot s.begin)

/-- REQUEST_SENT: The last byte of the tag request frame has gone (R88). -/
def execRequestSent (s : State) : Host.Outcome State Fault Refusal :=
  .next (requestSentEvent s.begin)

/-- TAG_ANSWER: A whole answer frame from a tag (R90, R91, R93). -/
def execTagAnswer (frame : List Byte) (s : State) : Host.Outcome State Fault Refusal :=
  .next (tagAnswerEvent frame s.begin)

/-- TURNAROUND_EXPIRY: R94; begun where part of a frame had arrived. -/
def execTurnaroundExpiry (begun : Bool) (s : State) : Host.Outcome State Fault Refusal :=
  .next (turnaroundExpired begun s.begin)

/-- GUARD_EXPIRY: R99. -/
def execGuardExpiry (s : State) : Host.Outcome State Fault Refusal :=
  .next (guardExpired s.begin)

/-- ROLL_END_LINE_RISE: R108, R109. -/
def execRollEndLineRise (roll : RollId) (s : State) : Host.Outcome State Fault Refusal :=
  .next (rollEndLineRose roll s.begin)

/-- ROLL_END_LINE_FALL: R109. -/
def execRollEndLineFall (roll : RollId) (s : State) : Host.Outcome State Fault Refusal :=
  .next (rollEndLineFell roll s.begin)

/-- MEDIA_PRESENT_FALL: R108, R109. -/
def execMediaPresentFall (roll : RollId) (s : State) : Host.Outcome State Fault Refusal :=
  .next (mediaPresentFell roll s.begin)

/-- MEDIA_PRESENT_RISE: R109. -/
def execMediaPresentRise (roll : RollId) (s : State) : Host.Outcome State Fault Refusal :=
  .next (mediaPresentRose roll s.begin)

/-- EJECT_TIMER_EXPIRY: R121. -/
def execEjectTimerExpiry (s : State) : Host.Outcome State Fault Refusal :=
  .next (ejectTimerExpired s.begin)

/-- HOME_LINE_RISE: R145, R147. -/
def execHomeLineRise (s : State) : Host.Outcome State Fault Refusal :=
  .next (cutterLineRose .homeEnd s.begin)

/-- END_LINE_RISE: R145, R147. -/
def execEndLineRise (s : State) : Host.Outcome State Fault Refusal :=
  .next (cutterLineRose .farEnd s.begin)

/-- CUT_TIMER_EXPIRY: R148. -/
def execCutTimerExpiry (s : State) : Host.Outcome State Fault Refusal :=
  .next (cutTimerExpired s.begin)

/-- CAL_DONE: R161. -/
def execCalDone (exchange : Nat) (ok : Bool) (s : State) : Host.Outcome State Fault Refusal :=
  .next (calDone exchange ok s.begin)

/-- RESULT: R162, R163. -/
def execResult (exchange : Nat) (triples : List Lab) (s : State) : Host.Outcome State Fault Refusal :=
  .next (resultTaken exchange triples s.begin)

/-- SENSOR_ERROR: R162. -/
def execSensorError (exchange : Nat) (code : Nat) (s : State) : Host.Outcome State Fault Refusal :=
  .next (sensorErrorTaken exchange code s.begin)

/-- SENSOR_TIMER_EXPIRY: R161, R162. -/
def execSensorTimerExpiry (s : State) : Host.Outcome State Fault Refusal :=
  .next (sensorTimerExpired s.begin)

/-- SETTLE_TIMER_EXPIRY: R158. -/
def execSettleTimerExpiry (s : State) : Host.Outcome State Fault Refusal :=
  .next (settleTimerExpired s.begin)

/-- SENSOR_FRAME_INVALID: A malformed sensor-link frame (R198). -/
def execSensorFrameInvalid (s : State) : Host.Outcome State Fault Refusal :=
  .next (sensorFrameDiscarded s.begin)

/-- DOZE_TIMER_EXPIRY: R176. -/
def execDozeTimerExpiry (s : State) : Host.Outcome State Fault Refusal :=
  .next (dozeTimerExpired s.begin)

/-- CAP_TIMER_EXPIRY: R176. -/
def execCapTimerExpiry (s : State) : Host.Outcome State Fault Refusal :=
  .next (capTimerExpired s.begin)

/-- BYTE_CLOCKED: One byte clocked in, and one out (R187, R192). -/
def execByteClocked (byte : Byte) (s : State) : Host.Outcome State Fault Refusal :=
  .next (clockByte byte s)

/-- CUTTER_LINE_FALL: R145. -/
def execCutterLineFall (line : CarriageEnd) (s : State) : Host.Outcome State Fault Refusal :=
  .next (cutterLineFell line s.begin)

end Sys2Proof.Machine
end

