-- ==== Sys2Proof/Machine/Requests.lean ====
section
/-! DEFINITION. The meanings of the host requests, one for each: the whole frame of the request arrives, with
its tag (log entry 5). What the request does is its block's rule, named `req...` in that block's file and
chosen by `handle`. -/

namespace Sys2Proof.Machine

open Sys2Proof

/-- UNKNOWN_REQUEST: A frame whose request code is not in the table of 12.1 (R190). -/
def execUnknownRequest (tag : Nat) (code : Nat) (bodyLength : Nat)
    (s : State) : Host.Outcome State Fault Refusal :=
  .next (deliver tag (.unknownRequest code bodyLength) s)

/-- EDITION_CREATE: R4. -/
def execEditionCreate (tag : Nat) (slot : Nat) (params : EditionParams)
    (s : State) : Host.Outcome State Fault Refusal :=
  .next (deliver tag (.editionCreate slot params) s)

/-- EDITION_SET: R5; bit k of the group set selects group k of 12.1. -/
def execEditionSet (tag : Nat) (slot : Nat) (groups : BitVec 16) (params : EditionParams)
    (s : State) : Host.Outcome State Fault Refusal :=
  .next (deliver tag (.editionSet slot groups params) s)

/-- EDITION_HOLD: R7. -/
def execEditionHold (tag : Nat) (slot : Nat) (s : State) : Host.Outcome State Fault Refusal :=
  .next (deliver tag (.editionHold slot) s)

/-- EDITION_RELEASE: R8. -/
def execEditionRelease (tag : Nat) (slot : Nat) (s : State) : Host.Outcome State Fault Refusal :=
  .next (deliver tag (.editionRelease slot) s)

/-- EDITION_CLOSE: R9. -/
def execEditionClose (tag : Nat) (slot : Nat) (s : State) : Host.Outcome State Fault Refusal :=
  .next (deliver tag (.editionClose slot) s)

/-- EDITION_RETIRE: R10. -/
def execEditionRetire (tag : Nat) (slot : Nat) (s : State) : Host.Outcome State Fault Refusal :=
  .next (deliver tag (.editionRetire slot) s)

/-- EDITION_RESTORE: R11. -/
def execEditionRestore (tag : Nat) (slot : Nat) (record : RestoreRecord)
    (s : State) : Host.Outcome State Fault Refusal :=
  .next (deliver tag (.editionRestore slot record) s)

/-- EDITION_GET: R3. -/
def execEditionGet (tag : Nat) (slot : Nat) (s : State) : Host.Outcome State Fault Refusal :=
  .next (deliver tag (.editionGet slot) s)

/-- EDITION_FIND: R3. -/
def execEditionFind (tag : Nat) (label : Nat) (s : State) : Host.Outcome State Fault Refusal :=
  .next (deliver tag (.editionFind label) s)

/-- PRINT_ADMIT: R24, R25. -/
def execPrintAdmit (tag : Nat) (slot : Nat) (leadMargin : Nat) (image : Nat) (trailMargin : Nat)
    (s : State) : Host.Outcome State Fault Refusal :=
  .next (deliver tag (.printAdmit slot leadMargin image trailMargin) s)

/-- TICKET_CANCEL: R35. -/
def execTicketCancel (tag : Nat) (id : Nat) (s : State) : Host.Outcome State Fault Refusal :=
  .next (deliver tag (.ticketCancel id) s)

/-- TICKET_GET: R41. -/
def execTicketGet (tag : Nat) (id : Nat) (s : State) : Host.Outcome State Fault Refusal :=
  .next (deliver tag (.ticketGet id) s)

/-- TICKET_LIST: R41. -/
def execTicketList (tag : Nat) (s : State) : Host.Outcome State Fault Refusal :=
  .next (deliver tag .ticketList s)

/-- TICKET_COLLECT: R42. -/
def execTicketCollect (tag : Nat) (id : Nat) (s : State) : Host.Outcome State Fault Refusal :=
  .next (deliver tag (.ticketCollect id) s)

/-- PAUSE_LIMIT_SET: R36. -/
def execPauseLimitSet (tag : Nat) (limit : Nat) (s : State) : Host.Outcome State Fault Refusal :=
  .next (deliver tag (.pauseLimitSet limit) s)

/-- DROP_VOLUMES_SET: R44. -/
def execDropVolumesSet (tag : Nat) (channel : Nat) (small : Nat) (medium : Nat) (large : Nat)
    (s : State) : Host.Outcome State Fault Refusal :=
  .next (deliver tag (.dropVolumesSet channel small medium large) s)

/-- FEE_SET: R45. -/
def execFeeSet (tag : Nat) (cut : Nat) (check : Nat) (s : State) : Host.Outcome State Fault Refusal :=
  .next (deliver tag (.feeSet cut check) s)

/-- METER_GET: R46. -/
def execMeterGet (tag : Nat) (s : State) : Host.Outcome State Fault Refusal :=
  .next (deliver tag .meterGet s)

/-- HOUSE_GET: R62. -/
def execHouseGet (tag : Nat) (s : State) : Host.Outcome State Fault Refusal :=
  .next (deliver tag .houseGet s)

/-- HOUSE_CLEAR: R63. -/
def execHouseClear (tag : Nat) (s : State) : Host.Outcome State Fault Refusal :=
  .next (deliver tag .houseClear s)

/-- TANK_RELEASE: R82. -/
def execTankRelease (tag : Nat) (slot : Nat) (s : State) : Host.Outcome State Fault Refusal :=
  .next (deliver tag (.tankRelease slot) s)

/-- TANK_REREAD: R83. -/
def execTankReread (tag : Nat) (slot : Nat) (s : State) : Host.Outcome State Fault Refusal :=
  .next (deliver tag (.tankReread slot) s)

/-- TANK_GET: R86. -/
def execTankGet (tag : Nat) (slot : Nat) (s : State) : Host.Outcome State Fault Refusal :=
  .next (deliver tag (.tankGet slot) s)

/-- CHANNEL_SET: R85. -/
def execChannelSet (tag : Nat) (channel : Nat) (floor : Nat) (level : Nat)
    (s : State) : Host.Outcome State Fault Refusal :=
  .next (deliver tag (.channelSet channel floor level) s)

/-- CHANNEL_GET: R86. -/
def execChannelGet (tag : Nat) (channel : Nat) (s : State) : Host.Outcome State Fault Refusal :=
  .next (deliver tag (.channelGet channel) s)

/-- TAGBUS_GET: R101. -/
def execTagbusGet (tag : Nat) (s : State) : Host.Outcome State Fault Refusal :=
  .next (deliver tag .tagbusGet s)

/-- ROLL_LOAD: R103. -/
def execRollLoad (tag : Nat) (roll : Nat) (mediaClass : Nat) (width : Nat) (remaining : Nat) (price : Nat)
    (s : State) : Host.Outcome State Fault Refusal :=
  .next (deliver tag (.rollLoad roll mediaClass width remaining price) s)

/-- ROLL_SET: R104; group bit 0 price, bit 1 low threshold. -/
def execRollSet (tag : Nat) (roll : Nat) (groups : BitVec 8) (price : Nat) (threshold : Nat)
    (s : State) : Host.Outcome State Fault Refusal :=
  .next (deliver tag (.rollSet roll groups price threshold) s)

/-- ROLL_SELECT: R105. -/
def execRollSelect (tag : Nat) (roll : Nat) (s : State) : Host.Outcome State Fault Refusal :=
  .next (deliver tag (.rollSelect roll) s)

/-- ROLL_UNLOAD: R106. -/
def execRollUnload (tag : Nat) (roll : Nat) (s : State) : Host.Outcome State Fault Refusal :=
  .next (deliver tag (.rollUnload roll) s)

/-- ROLL_GET: R124. -/
def execRollGet (tag : Nat) (roll : Nat) (s : State) : Host.Outcome State Fault Refusal :=
  .next (deliver tag (.rollGet roll) s)

/-- EJECT_DELAY_SET: R121. -/
def execEjectDelaySet (tag : Nat) (delay : Nat) (s : State) : Host.Outcome State Fault Refusal :=
  .next (deliver tag (.ejectDelaySet delay) s)

/-- EJECT: R123. -/
def execEject (tag : Nat) (s : State) : Host.Outcome State Fault Refusal :=
  .next (deliver tag .eject s)

/-- PATH_GET: R124. -/
def execPathGet (tag : Nat) (s : State) : Host.Outcome State Fault Refusal :=
  .next (deliver tag .pathGet s)

/-- ENGINE_GET: R143. -/
def execEngineGet (tag : Nat) (s : State) : Host.Outcome State Fault Refusal :=
  .next (deliver tag .engineGet s)

/-- CUTTER_CLEAR_MADE: CUTTER_CLEAR with outcome made (R149). -/
def execCutterClearMade (tag : Nat) (s : State) : Host.Outcome State Fault Refusal :=
  .next (deliver tag .cutterClearMade s)

/-- CUTTER_CLEAR_RETRY: CUTTER_CLEAR with outcome retry (R149). -/
def execCutterClearRetry (tag : Nat) (s : State) : Host.Outcome State Fault Refusal :=
  .next (deliver tag .cutterClearRetry s)

/-- BLADE_FIT: R150. -/
def execBladeFit (tag : Nat) (life : Nat) (s : State) : Host.Outcome State Fault Refusal :=
  .next (deliver tag (.bladeFit life) s)

/-- CUTTER_GET: R152. -/
def execCutterGet (tag : Nat) (s : State) : Host.Outcome State Fault Refusal :=
  .next (deliver tag .cutterGet s)

/-- REFSET_LOAD: R154. -/
def execRefsetLoad (tag : Nat) (set : Nat) (count : Nat) (targets : List Lab)
    (s : State) : Host.Outcome State Fault Refusal :=
  .next (deliver tag (.refsetLoad set count targets) s)

/-- REFSET_CLEAR: R155. -/
def execRefsetClear (tag : Nat) (set : Nat) (s : State) : Host.Outcome State Fault Refusal :=
  .next (deliver tag (.refsetClear set) s)

/-- REFSET_GET: R155. -/
def execRefsetGet (tag : Nat) (set : Nat) (s : State) : Host.Outcome State Fault Refusal :=
  .next (deliver tag (.refsetGet set) s)

/-- SENSOR_RESET: R169. -/
def execSensorReset (tag : Nat) (s : State) : Host.Outcome State Fault Refusal :=
  .next (deliver tag .sensorReset s)

/-- SENSOR_GET: R170. -/
def execSensorGet (tag : Nat) (s : State) : Host.Outcome State Fault Refusal :=
  .next (deliver tag .sensorGet s)

/-- IDLE_TIMERS_SET: R174. -/
def execIdleTimersSet (tag : Nat) (doze : Nat) (cap : Nat) (sources : BitVec 8)
    (s : State) : Host.Outcome State Fault Refusal :=
  .next (deliver tag (.idleTimersSet doze cap sources) s)

/-- PURGE_VOLUMES_SET: R179; level 0 LIGHT, 1 HEAVY. -/
def execPurgeVolumesSet (tag : Nat) (level : Nat) (volumes : Vector Nat 12)
    (s : State) : Host.Outcome State Fault Refusal :=
  .next (deliver tag (.purgeVolumesSet level volumes) s)

/-- PURGE: R181. -/
def execPurge (tag : Nat) (channels : BitVec 16) (level : Nat)
    (s : State) : Host.Outcome State Fault Refusal :=
  .next (deliver tag (.purge channels level) s)

/-- STOP_DRAIN: STOP with mode DRAIN (R182). -/
def execStopDrain (tag : Nat) (s : State) : Host.Outcome State Fault Refusal :=
  .next (deliver tag .stopDrain s)

/-- STOP_NOW: STOP with mode NOW (R183). -/
def execStopNow (tag : Nat) (s : State) : Host.Outcome State Fault Refusal :=
  .next (deliver tag .stopNow s)

/-- RESUME: R184; the flag is path-cleared. -/
def execResume (tag : Nat) (cleared : Bool) (s : State) : Host.Outcome State Fault Refusal :=
  .next (deliver tag (.resume cleared) s)

/-- RUN_GET: R185. -/
def execRunGet (tag : Nat) (s : State) : Host.Outcome State Fault Refusal :=
  .next (deliver tag .runGet s)

/-- NOTICE_READ: R194. -/
def execNoticeRead (tag : Nat) (s : State) : Host.Outcome State Fault Refusal :=
  .next (deliver tag .noticeRead s)

/-- NOTICE_CLEAR: R194. -/
def execNoticeClear (tag : Nat) (kinds : BitVec 24) (s : State) : Host.Outcome State Fault Refusal :=
  .next (deliver tag (.noticeClear kinds) s)

/-- NOTICE_ENABLE: R194. -/
def execNoticeEnable (tag : Nat) (kinds : BitVec 24) (s : State) : Host.Outcome State Fault Refusal :=
  .next (deliver tag (.noticeEnable kinds) s)

/-- DATE_SET: R195. -/
def execDateSet (tag : Nat) (day : Nat) (s : State) : Host.Outcome State Fault Refusal :=
  .next (deliver tag (.dateSet day) s)

/-- LINK_SET: R196; none where the request carries nothing. -/
def execLinkSet (tag : Nat) (limit : Option Nat) (s : State) : Host.Outcome State Fault Refusal :=
  .next (deliver tag (.linkSet limit) s)

end Sys2Proof.Machine
end

