-- ==== Sys2Proof/Machine/Dispatch.lean ====
section
/-! DEFINITION. What each command does: one arm per constructor of Instr, in the order of
spec/opcode_table.json. -/

namespace Sys2Proof.Machine

open Sys2Proof

def exec (i : Instr) (s : State) : Host.Outcome State Fault Refusal :=
  match i with
  | .reset => Sys2Proof.Machine.execReset s
  | .frameReceive => Sys2Proof.Machine.execFrameReceive s
  | .replyFramePlace => Sys2Proof.Machine.execReplyFramePlace s
  | .unknownRequest tag code bodyLength => Sys2Proof.Machine.execUnknownRequest tag code bodyLength s
  | .editionCreate tag slot params => Sys2Proof.Machine.execEditionCreate tag slot params s
  | .editionSet tag slot groups params => Sys2Proof.Machine.execEditionSet tag slot groups params s
  | .editionHold tag slot => Sys2Proof.Machine.execEditionHold tag slot s
  | .editionRelease tag slot => Sys2Proof.Machine.execEditionRelease tag slot s
  | .editionClose tag slot => Sys2Proof.Machine.execEditionClose tag slot s
  | .editionRetire tag slot => Sys2Proof.Machine.execEditionRetire tag slot s
  | .editionRestore tag slot record => Sys2Proof.Machine.execEditionRestore tag slot record s
  | .editionGet tag slot => Sys2Proof.Machine.execEditionGet tag slot s
  | .editionFind tag label => Sys2Proof.Machine.execEditionFind tag label s
  | .printAdmit tag slot leadMargin image trailMargin => Sys2Proof.Machine.execPrintAdmit tag slot leadMargin image trailMargin s
  | .ticketCancel tag id => Sys2Proof.Machine.execTicketCancel tag id s
  | .ticketGet tag id => Sys2Proof.Machine.execTicketGet tag id s
  | .ticketList tag => Sys2Proof.Machine.execTicketList tag s
  | .ticketCollect tag id => Sys2Proof.Machine.execTicketCollect tag id s
  | .pauseLimitSet tag limit => Sys2Proof.Machine.execPauseLimitSet tag limit s
  | .dropVolumesSet tag channel small medium large => Sys2Proof.Machine.execDropVolumesSet tag channel small medium large s
  | .feeSet tag cut check => Sys2Proof.Machine.execFeeSet tag cut check s
  | .meterGet tag => Sys2Proof.Machine.execMeterGet tag s
  | .houseGet tag => Sys2Proof.Machine.execHouseGet tag s
  | .houseClear tag => Sys2Proof.Machine.execHouseClear tag s
  | .tankRelease tag slot => Sys2Proof.Machine.execTankRelease tag slot s
  | .tankReread tag slot => Sys2Proof.Machine.execTankReread tag slot s
  | .tankGet tag slot => Sys2Proof.Machine.execTankGet tag slot s
  | .channelSet tag channel floor level => Sys2Proof.Machine.execChannelSet tag channel floor level s
  | .channelGet tag channel => Sys2Proof.Machine.execChannelGet tag channel s
  | .tagbusGet tag => Sys2Proof.Machine.execTagbusGet tag s
  | .rollLoad tag roll mediaClass width remaining price => Sys2Proof.Machine.execRollLoad tag roll mediaClass width remaining price s
  | .rollSet tag roll groups price threshold => Sys2Proof.Machine.execRollSet tag roll groups price threshold s
  | .rollSelect tag roll => Sys2Proof.Machine.execRollSelect tag roll s
  | .rollUnload tag roll => Sys2Proof.Machine.execRollUnload tag roll s
  | .rollGet tag roll => Sys2Proof.Machine.execRollGet tag roll s
  | .ejectDelaySet tag delay => Sys2Proof.Machine.execEjectDelaySet tag delay s
  | .eject tag => Sys2Proof.Machine.execEject tag s
  | .pathGet tag => Sys2Proof.Machine.execPathGet tag s
  | .engineGet tag => Sys2Proof.Machine.execEngineGet tag s
  | .cutterClearMade tag => Sys2Proof.Machine.execCutterClearMade tag s
  | .cutterClearRetry tag => Sys2Proof.Machine.execCutterClearRetry tag s
  | .bladeFit tag life => Sys2Proof.Machine.execBladeFit tag life s
  | .cutterGet tag => Sys2Proof.Machine.execCutterGet tag s
  | .refsetLoad tag set count targets => Sys2Proof.Machine.execRefsetLoad tag set count targets s
  | .refsetClear tag set => Sys2Proof.Machine.execRefsetClear tag set s
  | .refsetGet tag set => Sys2Proof.Machine.execRefsetGet tag set s
  | .sensorReset tag => Sys2Proof.Machine.execSensorReset tag s
  | .sensorGet tag => Sys2Proof.Machine.execSensorGet tag s
  | .idleTimersSet tag doze cap sources => Sys2Proof.Machine.execIdleTimersSet tag doze cap sources s
  | .purgeVolumesSet tag level volumes => Sys2Proof.Machine.execPurgeVolumesSet tag level volumes s
  | .purge tag channels level => Sys2Proof.Machine.execPurge tag channels level s
  | .stopDrain tag => Sys2Proof.Machine.execStopDrain tag s
  | .stopNow tag => Sys2Proof.Machine.execStopNow tag s
  | .resume tag cleared => Sys2Proof.Machine.execResume tag cleared s
  | .runGet tag => Sys2Proof.Machine.execRunGet tag s
  | .noticeRead tag => Sys2Proof.Machine.execNoticeRead tag s
  | .noticeClear tag kinds => Sys2Proof.Machine.execNoticeClear tag kinds s
  | .noticeEnable tag kinds => Sys2Proof.Machine.execNoticeEnable tag kinds s
  | .dateSet tag day => Sys2Proof.Machine.execDateSet tag day s
  | .linkSet tag limit => Sys2Proof.Machine.execLinkSet tag limit s
  | .engineReady => Sys2Proof.Machine.execEngineReady s
  | .swathRequest ticket step => Sys2Proof.Machine.execSwathRequest ticket step s
  | .swathDone ticket fed counts => Sys2Proof.Machine.execSwathDone ticket fed counts s
  | .feedDone fed => Sys2Proof.Machine.execFeedDone fed s
  | .purgeDone volumes => Sys2Proof.Machine.execPurgeDone volumes s
  | .parkDone => Sys2Proof.Machine.execParkDone s
  | .capDone => Sys2Proof.Machine.execCapDone s
  | .uncapDone => Sys2Proof.Machine.execUncapDone s
  | .engineFault code => Sys2Proof.Machine.execEngineFault code s
  | .engineFrameInvalid => Sys2Proof.Machine.execEngineFrameInvalid s
  | .swathTimerExpiry => Sys2Proof.Machine.execSwathTimerExpiry s
  | .pauseExpiry ticket => Sys2Proof.Machine.execPauseExpiry ticket s
  | .switchTimerExpiry channel => Sys2Proof.Machine.execSwitchTimerExpiry channel s
  | .presenceRise slot => Sys2Proof.Machine.execPresenceRise slot s
  | .presenceFall slot => Sys2Proof.Machine.execPresenceFall slot s
  | .requestSent => Sys2Proof.Machine.execRequestSent s
  | .tagAnswer frame => Sys2Proof.Machine.execTagAnswer frame s
  | .turnaroundExpiry begun => Sys2Proof.Machine.execTurnaroundExpiry begun s
  | .guardExpiry => Sys2Proof.Machine.execGuardExpiry s
  | .rollEndLineRise roll => Sys2Proof.Machine.execRollEndLineRise roll s
  | .rollEndLineFall roll => Sys2Proof.Machine.execRollEndLineFall roll s
  | .mediaPresentFall roll => Sys2Proof.Machine.execMediaPresentFall roll s
  | .mediaPresentRise roll => Sys2Proof.Machine.execMediaPresentRise roll s
  | .ejectTimerExpiry => Sys2Proof.Machine.execEjectTimerExpiry s
  | .homeLineRise => Sys2Proof.Machine.execHomeLineRise s
  | .endLineRise => Sys2Proof.Machine.execEndLineRise s
  | .cutTimerExpiry => Sys2Proof.Machine.execCutTimerExpiry s
  | .calDone exchange ok => Sys2Proof.Machine.execCalDone exchange ok s
  | .result exchange triples => Sys2Proof.Machine.execResult exchange triples s
  | .sensorError exchange code => Sys2Proof.Machine.execSensorError exchange code s
  | .sensorTimerExpiry => Sys2Proof.Machine.execSensorTimerExpiry s
  | .settleTimerExpiry => Sys2Proof.Machine.execSettleTimerExpiry s
  | .sensorFrameInvalid => Sys2Proof.Machine.execSensorFrameInvalid s
  | .dozeTimerExpiry => Sys2Proof.Machine.execDozeTimerExpiry s
  | .capTimerExpiry => Sys2Proof.Machine.execCapTimerExpiry s
  | .byteClocked byte => Sys2Proof.Machine.execByteClocked byte s
  | .cutterLineFall line => Sys2Proof.Machine.execCutterLineFall line s

end Sys2Proof.Machine
end

