-- ==== Sys2Proof/Machine/Step.lean ====
section
/-! DEFINITION. One step: the command at the front of the queue is taken and executed; with no command
waiting, a millisecond passes (log entry 2). -/

namespace Sys2Proof.Machine

open Sys2Proof

/-- With no command waiting: the expiry of a timer that has reached 0, or a millisecond. -/
def idleStep (s : State) : Host.Outcome State Fault Refusal :=
  match s.due with
  | some c => exec c s
  | none => .next s.begin.countDown

def step (s : State) : Host.Outcome State Fault Refusal :=
  match s.pending with
  | [] => idleStep s
  | c :: cs => exec c (s.withPending cs)

/-- The state with the command that a word spells at the front of its queue. No row of the table has bits,
so no word spells one (log entry 9). -/
def State.withFetchWord (s : State) (nbits w : Nat) : State :=
  match decodeTableWord nbits w with
  | none => s
  | some c => s.withPending (c :: s.pending)

end Sys2Proof.Machine
end

