-- ==== Sys2Proof/WellFormed.lean ====
section
/-! DEFINITION. The commands that a frame, a message or a line can carry: each field within the bytes that
12_frame_and_record_layouts.md gives it, and a body of a length that a frame can hold. -/

namespace Sys2Proof

/-- The field fits in so many bytes. -/
def fits (bytes n : Nat) : Bool := decide (n < 256 ^ bytes)

/-- A colour triple as 6 bytes spell it: L* unsigned, a* and b* signed. -/
def Lab.wellFormed (x : Lab) : Bool :=
  decide (0 ≤ x.l) && decide (x.l < 65536) && decide (-32768 ≤ x.a) && decide (x.a < 32768) &&
    decide (-32768 ≤ x.b) && decide (x.b < 32768)

/-- The parameter block of 12.1. -/
def EditionParams.wellFormed (p : EditionParams) : Bool :=
  fits 4 p.label && fits 2 p.size && fits 1 p.mediaClass && fits 1 p.policy && fits 1 p.refset &&
    fits 2 p.tmax && fits 2 p.tmean && fits 2 p.twarn && fits 1 p.holdThreshold

/-- The record of 12.2. -/
def RestoreRecord.wellFormed (r : RestoreRecord) : Bool :=
  fits 1 r.state && fits 4 r.label && fits 2 r.size && fits 2 r.next && fits 2 r.good && fits 2 r.spoiled &&
    fits 2 r.unverified && fits 1 r.returnLength && r.returnPlaces.toList.all (fits 2) && fits 1 r.mediaClass &&
    r.pins.toList.all (fits 4) && fits 1 r.refset && fits 2 r.tmax && fits 2 r.tmean && fits 2 r.twarn &&
    fits 1 r.holdThreshold && fits 1 r.fails && fits 6 r.goodCost && fits 6 r.spoilCost && fits 6 r.goodInk &&
    fits 4 r.goodMedia

/-- The three counts of one channel's drops (12.5). -/
def DropCounts.wellFormed (n : DropCounts) : Bool := fits 4 n.small && fits 4 n.medium && fits 4 n.large

/-- A row of colour triples that one frame can carry (R197; a frame of at most 255 bytes on the sensor link,
12.5). -/
def rowOk (xs : List Lab) : Bool := decide (xs.length ≤ 41) && xs.all Lab.wellFormed

/-- The fields of a command are those that its frame, its message or its line can carry. -/
def Instr.wellFormed : Instr → Bool
  | .unknownRequest tag code n =>
    fits 2 tag && fits 2 code && bodyLengthOk code 0 == none && decide (n ≤ 250)
  | .editionCreate tag slot p => fits 2 tag && fits 1 slot && p.wellFormed
  | .editionSet tag slot _ p => fits 2 tag && fits 1 slot && p.wellFormed
  | .editionRestore tag slot r => fits 2 tag && fits 1 slot && r.wellFormed
  | .editionFind tag label => fits 2 tag && fits 4 label
  | .printAdmit tag slot lm li lt => fits 2 tag && fits 1 slot && fits 2 lm && fits 2 li && fits 2 lt
  | .dropVolumesSet tag c a b d => fits 2 tag && fits 1 c && fits 2 a && fits 2 b && fits 2 d
  | .feeSet tag a b => fits 2 tag && fits 4 a && fits 4 b
  | .channelSet tag c f l => fits 2 tag && fits 1 c && fits 1 f && fits 1 l
  | .rollLoad tag r m w n p => fits 2 tag && fits 1 r && fits 1 m && fits 2 w && fits 4 n && fits 4 p
  | .rollSet tag r _ p n => fits 2 tag && fits 1 r && fits 4 p && fits 4 n
  | .refsetLoad tag r n ts => fits 2 tag && fits 1 r && fits 1 n && rowOk ts
  | .idleTimersSet tag d c _ => fits 2 tag && fits 2 d && fits 4 c
  | .purgeVolumesSet tag lvl v => fits 2 tag && fits 1 lvl && v.toList.all (fits 4)
  | .purge tag _ lvl => fits 2 tag && fits 1 lvl
  | .bladeFit tag n => fits 2 tag && fits 4 n
  | .pauseLimitSet tag n | .ejectDelaySet tag n | .dateSet tag n => fits 2 tag && fits 2 n
  | .linkSet tag n => fits 2 tag && (match n with | some x => fits 2 x | none => true)
  | .editionHold tag n | .editionRelease tag n | .editionClose tag n | .editionRetire tag n
  | .editionGet tag n | .ticketCancel tag n | .ticketGet tag n | .ticketCollect tag n | .tankRelease tag n
  | .tankReread tag n | .tankGet tag n | .channelGet tag n | .rollSelect tag n | .rollUnload tag n
  | .rollGet tag n | .refsetClear tag n | .refsetGet tag n => fits 2 tag && fits 1 n
  | .ticketList tag | .meterGet tag | .houseGet tag | .houseClear tag | .tagbusGet tag | .eject tag
  | .pathGet tag | .engineGet tag | .cutterClearMade tag | .cutterClearRetry tag | .cutterGet tag
  | .sensorReset tag | .sensorGet tag | .stopDrain tag | .stopNow tag | .resume tag _ | .runGet tag
  | .noticeRead tag | .noticeClear tag _ | .noticeEnable tag _ => fits 2 tag
  | .swathRequest t step => fits 1 t && fits 1 step
  | .swathDone t f counts => fits 1 t && fits 2 f && counts.toList.all DropCounts.wellFormed
  | .feedDone f => fits 2 f
  | .purgeDone v => v.toList.all (fits 4)
  | .engineFault code => fits 1 code
  | .calDone x _ => fits 1 x
  | .result x row => fits 1 x && rowOk row
  | .sensorError x code => fits 1 x && fits 1 code
  | .reset | .frameReceive | .replyFramePlace | .engineReady | .parkDone | .capDone | .uncapDone
  | .engineFrameInvalid | .swathTimerExpiry | .pauseExpiry _ | .switchTimerExpiry _ | .presenceRise _
  | .presenceFall _ | .requestSent | .tagAnswer _ | .turnaroundExpiry _ | .guardExpiry | .rollEndLineRise _
  | .rollEndLineFall _ | .mediaPresentFall _ | .mediaPresentRise _ | .ejectTimerExpiry | .homeLineRise
  | .endLineRise | .cutTimerExpiry | .sensorTimerExpiry | .settleTimerExpiry | .sensorFrameInvalid
  | .dozeTimerExpiry | .capTimerExpiry | .byteClocked _ | .cutterLineFall _ => true

end Sys2Proof
end

