-- ==== Sys2Proof/Safety.lean ====
section
/-! DEFINITION. The words in which statements about the machine are made: which blocks two states agree on,
when a host request is executed in the event of its arrival and what its answer leaves, the sending of an
operation to the engine, and the laws that the manual says the part keeps. -/

namespace Sys2Proof.Machine

open Sys2Proof

/-! ## Agreement of two states -/

/-- The blocks of records of a state (00_scope.md, "Block overview"). -/
inductive Block where
  | editions
  | desk
  | costing
  | supply
  | tags
  | media
  | engine
  | cutter
  | colour
  | run
  | link
  | notices
  | date
deriving DecidableEq, Repr

/-- Two states agree on a block. -/
def Block.same : Block → State → State → Prop
  | .editions, s, t => t.editions = s.editions
  | .desk, s, t => t.desk = s.desk
  | .costing, s, t => t.costing = s.costing
  | .supply, s, t => t.supply = s.supply
  | .tags, s, t => t.tags = s.tags
  | .media, s, t => t.media = s.media
  | .engine, s, t => t.engine = s.engine
  | .cutter, s, t => t.cutter = s.cutter
  | .colour, s, t => t.colour = s.colour
  | .run, s, t => t.run = s.run
  | .link, s, t => t.link = s.link
  | .notices, s, t => t.notices = s.notices
  | .date, s, t => t.date = s.date

/-- The states agree on their queues and on every block but those listed. -/
def State.sameBut (s : State) (bs : List Block) (t : State) : Prop :=
  t.pending = s.pending ∧ ∀ b : Block, b ∉ bs → b.same s t

/-! ## Host requests -/

/-- The tag and the request of a command that is the arrival of a request's frame; none of an event. -/
def requestOf (c : Instr) : Option (Nat × Request) :=
  match c with
  | .unknownRequest tag code bodyLength => some (tag, .unknownRequest code bodyLength)
  | .editionCreate tag slot params => some (tag, .editionCreate slot params)
  | .editionSet tag slot groups params => some (tag, .editionSet slot groups params)
  | .editionHold tag slot => some (tag, .editionHold slot)
  | .editionRelease tag slot => some (tag, .editionRelease slot)
  | .editionClose tag slot => some (tag, .editionClose slot)
  | .editionRetire tag slot => some (tag, .editionRetire slot)
  | .editionRestore tag slot record => some (tag, .editionRestore slot record)
  | .editionGet tag slot => some (tag, .editionGet slot)
  | .editionFind tag label => some (tag, .editionFind label)
  | .printAdmit tag slot leadMargin image trailMargin => some (tag, .printAdmit slot leadMargin image trailMargin)
  | .ticketCancel tag id => some (tag, .ticketCancel id)
  | .ticketGet tag id => some (tag, .ticketGet id)
  | .ticketList tag => some (tag, .ticketList)
  | .ticketCollect tag id => some (tag, .ticketCollect id)
  | .pauseLimitSet tag limit => some (tag, .pauseLimitSet limit)
  | .dropVolumesSet tag channel small medium large => some (tag, .dropVolumesSet channel small medium large)
  | .feeSet tag cut check => some (tag, .feeSet cut check)
  | .meterGet tag => some (tag, .meterGet)
  | .houseGet tag => some (tag, .houseGet)
  | .houseClear tag => some (tag, .houseClear)
  | .tankRelease tag slot => some (tag, .tankRelease slot)
  | .tankReread tag slot => some (tag, .tankReread slot)
  | .tankGet tag slot => some (tag, .tankGet slot)
  | .channelSet tag channel floor level => some (tag, .channelSet channel floor level)
  | .channelGet tag channel => some (tag, .channelGet channel)
  | .tagbusGet tag => some (tag, .tagbusGet)
  | .rollLoad tag roll mediaClass width remaining price => some (tag, .rollLoad roll mediaClass width remaining price)
  | .rollSet tag roll groups price threshold => some (tag, .rollSet roll groups price threshold)
  | .rollSelect tag roll => some (tag, .rollSelect roll)
  | .rollUnload tag roll => some (tag, .rollUnload roll)
  | .rollGet tag roll => some (tag, .rollGet roll)
  | .ejectDelaySet tag delay => some (tag, .ejectDelaySet delay)
  | .eject tag => some (tag, .eject)
  | .pathGet tag => some (tag, .pathGet)
  | .engineGet tag => some (tag, .engineGet)
  | .cutterClearMade tag => some (tag, .cutterClearMade)
  | .cutterClearRetry tag => some (tag, .cutterClearRetry)
  | .bladeFit tag life => some (tag, .bladeFit life)
  | .cutterGet tag => some (tag, .cutterGet)
  | .refsetLoad tag set count targets => some (tag, .refsetLoad set count targets)
  | .refsetClear tag set => some (tag, .refsetClear set)
  | .refsetGet tag set => some (tag, .refsetGet set)
  | .sensorReset tag => some (tag, .sensorReset)
  | .sensorGet tag => some (tag, .sensorGet)
  | .idleTimersSet tag doze cap sources => some (tag, .idleTimersSet doze cap sources)
  | .purgeVolumesSet tag level volumes => some (tag, .purgeVolumesSet level volumes)
  | .purge tag channels level => some (tag, .purge channels level)
  | .stopDrain tag => some (tag, .stopDrain)
  | .stopNow tag => some (tag, .stopNow)
  | .resume tag cleared => some (tag, .resume cleared)
  | .runGet tag => some (tag, .runGet)
  | .noticeRead tag => some (tag, .noticeRead)
  | .noticeClear tag kinds => some (tag, .noticeClear kinds)
  | .noticeEnable tag kinds => some (tag, .noticeEnable kinds)
  | .dateSet tag day => some (tag, .dateSet day)
  | .linkSet tag limit => some (tag, .linkSet limit)
  | .reset | .frameReceive | .replyFramePlace | .engineReady | .swathRequest _ _ | .swathDone _ _ _
  | .feedDone _ | .purgeDone _ | .parkDone | .capDone | .uncapDone | .engineFault _ | .engineFrameInvalid
  | .swathTimerExpiry | .pauseExpiry _ | .switchTimerExpiry _ | .presenceRise _ | .presenceFall _
  | .requestSent | .tagAnswer _ | .turnaroundExpiry _ | .guardExpiry | .rollEndLineRise _
  | .rollEndLineFall _ | .mediaPresentFall _ | .mediaPresentRise _ | .ejectTimerExpiry | .homeLineRise
  | .endLineRise | .cutTimerExpiry | .calDone _ _ | .result _ _ | .sensorError _ _ | .sensorTimerExpiry
  | .settleTimerExpiry | .sensorFrameInvalid | .dozeTimerExpiry | .capTimerExpiry | .byteClocked _
  | .cutterLineFall _ => none

/-- A request's frame arrives and is executed in the same event: it finds room in the command buffer, no
frame waits before it, and the two conditions of R189 hold. -/
def State.takesAtOnce (s : State) (r : Request) : Prop :=
  s.link.command = [] ∧ s.link.ready = true ∧ 6 + bodyLengthOf r ≤ s.link.freeCommand

/-- The state in which a request is handed to its owning block: a new event, and the reload of source REQUEST
(R190, step 2). -/
def State.asked (s : State) : State := s.begin.reload .byRequest

/-- `t` is `u`, in which a request's effects stand, with the request's reply given: the status and items are
recorded as sent, and of the command link only the reply in progress and the reply buffer have moved (R190,
step 5; R191). -/
def State.answers (u t : State) (tag : Nat) (st : Status) (body : ReplyBody) : Prop :=
  u.sameBut [.link] t ∧ t.out = u.out ++ [.reply tag st body] ∧
    t.link = { u.link with reply := t.link.reply, inProgress := t.link.inProgress }

/-- The replies among the things sent in an event. -/
def State.repliesSent (t : State) : List (Nat × Status) :=
  t.out.filterMap fun o => match o with
    | .reply tag st _ => some (tag, st)
    | _ => none

/-! ## Frames of the command link -/

/-- The request codes of 12.1 whose body has one length, each with that length. -/
def bodyLengths : List (Nat × Nat) :=
  [(0x10, 20), (0x11, 22), (0x12, 1), (0x13, 1), (0x14, 1), (0x15, 1), (0x16, 118), (0x17, 1), (0x18, 4), (0x20, 7),
   (0x21, 1), (0x22, 1), (0x23, 0), (0x24, 1), (0x25, 2), (0x30, 7), (0x31, 8), (0x32, 0), (0x33, 0), (0x34, 0),
   (0x40, 1), (0x41, 1), (0x42, 1), (0x43, 3), (0x44, 1), (0x48, 0), (0x50, 12), (0x51, 10), (0x52, 1), (0x53, 1),
   (0x54, 1), (0x55, 2), (0x56, 0), (0x57, 0), (0x60, 0), (0x68, 1), (0x69, 4), (0x6A, 0), (0x71, 1), (0x72, 1),
   (0x73, 0), (0x74, 0), (0x80, 7), (0x81, 49), (0x82, 3), (0x83, 1), (0x84, 1), (0x85, 0), (0x90, 0), (0x91, 3),
   (0x92, 3), (0x93, 2)]

/-- R190, step 3, and R197: a code of the table with a body of another length, or one of a STOP or a
CUTTER_CLEAR whose byte is neither 00h nor 01h. -/
def wrongBody (code : Nat) (body : List Byte) : Prop :=
  (∃ n, (code, n) ∈ bodyLengths ∧ body.length ≠ n) ∨ (code = 0x70 ∧ ∀ k, k ≤ 41 → body.length ≠ 2 + 6 * k) ∨
    (code = 0x94 ∧ body.length ≠ 0 ∧ body.length ≠ 2) ∨
    ((code = 0x68 ∨ code = 0x83) ∧ body.length = 1 ∧ 1 < field body 0 1)

/-- R191, 12.1: the frames of a reply under a limit, in their order. Each has the 6-byte header, with its
length, the tag, the status and the continued flag, which the last has clear, and the next bytes of the body up
to the limit less 6; an empty body is one frame. Bits 1 to 7 of the flag's byte are 0 (log entry 57). -/
def replyFrames (limit tag status : Nat) (body : List Byte) : List (List Byte) :=
  let w := limit - 6
  let n := max 1 ((body.length + (w - 1)) / w)
  (List.range n).map fun i =>
    let part := (body.drop (i * w)).take w
    toBytes 2 (part.length + 6) ++ toBytes 2 tag ++ toBytes 1 status ++ [if i + 1 = n then 0 else 1] ++ part

/-- R191: the reply buffer took from the front of a reply as many whole frames, in their order, as it had room
for, and went from `old` to `new`; `left` is the reply still in progress, absent after the last frame. -/
def ReplyInProgress.placedInto (p : ReplyInProgress) (old new : List Byte) (left : Option ReplyInProgress) : Prop :=
  let frames := replyFrames p.limit p.tag p.status.code p.rest
  ∃ k, k ≤ frames.length ∧ new = old ++ (frames.take k).flatten ∧
    left = (if k = frames.length then none else some { p with rest := p.rest.drop (k * (p.limit - 6)) }) ∧
    (0 < k → new.length ≤ 1024) ∧ ∀ f, frames[k]? = some f → 1024 < new.length + f.length

/-! ## Charges -/

/-- R51, R74, R75: the price in µcu of a debit of d nL of a channel: what the feeding tank holds at the tank's
price, and what is beyond it, or all of it where no tank feeds, at the last price. -/
def State.chargeOf (s : State) (c : ChannelId) (d : Nat) : Nat :=
  match (s.channel c).feed with
  | .fed y =>
    match s.tank (tankOf c y) with
    | .held _ r => min d r.fill * r.price + (d - r.fill) * (s.channel c).lastPrice
    | _ => d * (s.channel c).lastPrice
  | _ => d * (s.channel c).lastPrice

/-- R48 to R50: the whole nanolitres that a swath's counts and a channel's residue make. -/
def State.debitOf (s : State) (counts : Vector DropCounts 12) (c : ChannelId) : Nat :=
  (s.costing.residues[c] + (min counts[c].small 268435455 * s.costing.volumes[c].small +
    min counts[c].medium 268435455 * s.costing.volumes[c].medium +
    min counts[c].large 268435455 * s.costing.volumes[c].large)) / 10000

/-- R46 to R52: what a swath's counts are charged over the channels. -/
def State.swathCharge (s : State) (counts : Vector DropCounts 12) : Nat :=
  ((List.finRange 12).map fun c => s.chargeOf c (s.debitOf counts c)).sum

/-- R53: width times price of a roll. -/
def State.mmPrice (s : State) (r : RollId) : Nat :=
  match s.roll r with
  | some x => x.width * x.price
  | none => 0

/-- R47 to R53: from `k` to `k'` a ticket was charged a swath's counts in state `s` and `credit` mm of media. -/
def State.charged (s : State) (counts : Vector DropCounts 12) (credit : Nat) (k k' : Ticket) : Prop :=
  (∀ c : ChannelId, k'.ink[c] = min (2 ^ 32 - 1) (k.ink[c] + s.debitOf counts c)) ∧
    k'.acc = min (2 ^ 64 - 1) (k.acc + (s.swathCharge counts + credit * s.mmPrice k.roll)) ∧
    k'.saturated = (k.saturated || decide (2 ^ 64 - 1 < k.acc + (s.swathCharge counts + credit * s.mmPrice k.roll))) ∧
    k'.fees = k.fees

/-- The ranges of a ticket's ink and accumulator and of the residues, in which a swath is charged (R22, R43). -/
def State.chargeable (s : State) (k : Ticket) : Prop :=
  (∀ c : ChannelId, k.ink[c] < 2 ^ 32 ∧ s.costing.residues[c] < 10000) ∧ k.acc < 2 ^ 64

/-! ## Withdrawn tickets -/

/-- The print numbers of the tickets of a list, in its order. -/
def State.numbersOf (s : State) (xs : List TicketId) : List Nat :=
  xs.filterMap fun x => (s.ticket x).map (·.number)

/-- From `s` to `u` the tickets `xs` were cancelled by the part with a cause while ADMITTED (R34): they leave
the admitted queue and their statements stand; their numbers came back to edition `i`, whose in-flight count
fell by as many (R14); every other ticket is changed by `keep` alone, and TICKET_CLOSED was raised where there
was one. Of the edition's record, `e` before and `e'` after, nothing else differs; no other edition changed. -/
def State.withdrew (s u : State) (i : EditionId) (e e' : Edition) (xs : List TicketId) (cause : SpoilCause)
    (keep : Ticket → Ticket) : Prop :=
  (∀ x k, s.ticket x = some k → u.ticket x = some
    (if x ∈ xs then { k with state := .closedSpoiled, spoilCause := some cause, finalCost := some 0, qualifying := false }
     else keep k)) ∧
  (∀ x, s.ticket x = none → u.ticket x = none) ∧
  u.desk = { s.desk with tickets := u.desk.tickets, admitted := s.desk.admitted.filter fun x => decide (x ∉ xs) } ∧
  u.edition i = some e' ∧ (∀ j, j ≠ i → u.edition j = s.edition j) ∧
  e' = { e with returns := e'.returns, inFlight := e.inFlight - xs.length } ∧
  e'.returns.Perm (s.numbersOf xs ++ e.returns) ∧ (e.returns.Pairwise (· ≤ ·) → e'.returns.Pairwise (· ≤ ·)) ∧
  u.notices = { s.notices with
    pending := if xs = [] then s.notices.pending else s.notices.pending ||| 1#18 }

/-- From `s` to `u` the run is as it was, or took the event that no ticket is unclosed (R173), which it does
only where none is. -/
def State.mayGoIdle (s u : State) : Prop :=
  u.run = s.run ∨
    u.noneUnclosed = true ∧ (u.run = { s.run with resumeWait := false } ∨
      u.run = { s.run with state := .idle, resumeWait := false, dozeTimer := loadSeconds s.run.dozeLimit,
                           capTimer := loadSeconds s.run.capLimit })

/-! ## The stop list -/

/-- The actions of the stop list, each with its position, in the list's order (R117). -/
def Media.placed (m : Media) : List (Nat × StopAction) :=
  m.stops.flatMap fun e => e.actions.map fun a => (e.position, a)

/-- From `s` to `u` the media reached the entry `e`, the first of the stop list, before `es` (R118): its actions
are marked handed, unless a read of it ends at once; its one cut action goes to the cutter (R146), which starts a
traverse for it in IDLE and keeps it waiting in WORN; its one patch read goes to the colour check unit. -/
def State.reached (s u : State) (e : StopEntry) (es : List StopEntry) : Prop :=
  ((∀ b ∈ e.actions, b.kind = .patchRead → ∃ k r, s.ticket b.ticket = some k ∧ k.refset = some r ∧
      (s.refset r).targets ≠ [] ∧ (s.refset r).targets.length = k.patches ∧
      (s.colour.settle ≠ none ∨ s.colour.sensor ≠ .failed)) →
    u.media.stops = { e with actions := e.actions.map fun b => { b with handed := true } } :: es) ∧
  ((∀ b ∈ e.actions, b.kind = .patchRead) → u.cutter = s.cutter) ∧
  (∀ a h, (e.actions.filter fun b => !(b.kind == .patchRead)) = [a] →
    h = { kind := (match a.kind with | .leadTrim _ => .leadTrim | .separate => .separate | _ => .trailCut),
          ticket := a.ticket, ignored := false } →
    (s.cutter.state = .idle → u.cutter = { s.cutter with
      life := s.cutter.life - 1,
      state := .cutting (if s.cutter.side = .homeEnd then .farEnd else .homeEnd) 4000 h }) ∧
    (∀ w, s.cutter.state = .worn w →
      u.cutter = { s.cutter with state := .worn (some h) } ∧ u.notices.pending.getLsbD 13 = true)) ∧
  ((∀ b ∈ e.actions, b.kind ≠ .patchRead) → u.colour = s.colour) ∧
  (∀ b, (e.actions.filter fun b => b.kind == .patchRead) = [b] →
    u.colour = (s.handRead b.ticket).colour ∧
    (u.ticket b.ticket).map (·.verdict) = ((s.handRead b.ticket).ticket b.ticket).map (·.verdict))

/-! ## Head care -/

/-- The run states in which the single-channel and the manual purge are presented (R175). -/
def State.purging (s : State) : Prop :=
  s.run.state = .idle ∨ s.run.state = .running ∨ s.run.state = .draining ∨ s.run.state = .paused

/-- R180: a single-channel purge of a channel is wanted. -/
def State.needs (s : State) (c : ChannelId) : Prop :=
  (∃ y, (s.channel c).feed = .fed y) ∧ s.run.needsPurge[c] ≠ none

/-- R175, R176: the head-care operation that an empty slot is filled with: the first of those wanted. -/
def State.wants (s : State) : HeadOp → Prop
  | .uncap => s.run.state = .waking ∧ ∃ lvl, s.run.wake = some (lvl, .uncap)
  | .purge .wake => s.run.state = .waking ∧ ∃ lvl, s.run.wake = some (lvl, .purge)
  | .purge (.single c) => s.purging ∧ s.needs c ∧ ∀ b, b < c → ¬ s.needs b
  | .purge .manual => s.purging ∧ s.run.manual ≠ none ∧ ∀ c, ¬ s.needs c
  | .park => (s.run.state = .doze ∨ s.run.state = .capped) ∧ s.run.wanted = some .park
  | .cap => (s.run.state = .doze ∨ s.run.state = .capped) ∧ s.run.wanted = some .cap

/-! ## Cancelling -/

/-- From `s` to `u` a PRINTING ticket became CANCELLING with a cause (R35, R37, R119, R132). -/
def State.becameCancelling (s u : State) (x : TicketId) (k : Ticket) (cause : SpoilCause) : Prop :=
  s.sameBut [.desk, .media, .engine] u ∧
    u.ticket x = some { k with state := .cancelling, spoilCause := some cause, qualifying := false, pauseTimer := none } ∧
    (∀ y, y ≠ x → u.ticket y = s.ticket y) ∧ u.desk = { s.desk with tickets := u.desk.tickets } ∧
    u.media = { s.media with stops := u.media.stops } ∧
    u.media.placed = s.media.placed.filter (fun a =>
      !(a.2.kind == .patchRead && a.2.ticket == x && !a.2.handed)) ∧
    (∀ e ∈ u.media.stops, e.actions ≠ []) ∧
    (match s.engine.request with
      | some q => if q.ticket = x then u.engine.request = none ∧ u.out = [.engine (.deny x)]
                  else u.engine.request = some q ∧ u.out = []
      | none => u.engine.request = none ∧ u.out = []) ∧
    u.engine = { s.engine with request := u.engine.request, owed := u.engine.owed } ∧
    (k.outstanding = true → u.engine.owed = s.engine.owed) ∧
    (k.outstanding = false → u.engine.owed = if k.l ≤ k.fed then none else some (x, k.l - k.fed))

/-! ## Laws the part keeps -/

/-- The transfer in receipt has every byte it clocked in, as long as none was lost and its length is one that
a frame can have (R187, R188). -/
def Receipt.sound (r : Receipt) : Prop :=
  r.lost = false → (r.clocked < 2 ∨ within 6 256 r.declared = true) → r.stored.length = r.clocked

/-- The two buffers hold at most 1024 bytes and the reply limits stand in 16..256 (R186). -/
def Link.sound (l : Link) : Prop :=
  l.commandUsed ≤ 1024 ∧ l.reply.length ≤ 1024 ∧ 16 ≤ l.limit ∧ l.limit ≤ 256 ∧
    (∀ p, l.inProgress = some p → 16 ≤ p.limit ∧ p.limit ≤ 256) ∧ (∀ r, l.receipt = some r → r.sound)

/-- The ranges of R43, with the bound of R64 on the residues. -/
def Costing.sound (c : Costing) : Prop :=
  (∀ i : ChannelId, c.residues[i] < 10000) ∧
  (∀ i : ChannelId, within 1 400 c.volumes[i].small = true ∧ within 1 400 c.volumes[i].medium = true ∧
    within 1 400 c.volumes[i].large = true) ∧
  c.cutFee ≤ 1000000 ∧ c.checkFee ≤ 1000000 ∧ c.house < 2 ^ 64

/-- R79, law 1, and the ranges of R65: a fill within its tank's capacity, and the levels of each channel. -/
def Supply.sound (x : Supply) : Prop :=
  (∀ t : TankId, ∀ st r, x.tanks[t] = .held st r → r.fill ≤ mlToNl r.capacity) ∧
  (∀ c : ChannelId, within 1 100 x.channels[c].floor = true ∧ x.channels[c].level ≤ x.channels[c].floor)

/-- R79, law 2, with R70 and R82: the feeding slot of a FED channel is its one FEEDING slot; the switch target
of a SWITCHING channel is STANDBY, and its outgoing slot, like a feeding slot, is not being released; no slot
of a STARVED channel is FEEDING. -/
def Supply.oneFeeding (x : Supply) : Prop :=
  ∀ c : ChannelId,
    match x.channels[c].feed with
    | .fed y => (∃ r, x.tanks[tankOf c y] = .held .feeding r ∧ r.releasePending = false) ∧
        ∀ r, x.tanks[tankOf c y.other] ≠ .held .feeding r
    | .switching y _ => (∃ r, x.tanks[tankOf c y] = .held .standby r ∧ r.releasePending = false) ∧
        ∀ r, x.tanks[tankOf c y.other] = .held .feeding r → r.releasePending = false
    | .starved => ∀ y r, x.tanks[tankOf c y] ≠ .held .feeding r

/-- R67, R83, R96: a READ is pending, or on the bus, only at a READING slot, and not both at one slot. -/
def State.readsAtReadingSlots (s : State) : Prop :=
  (∀ x : TankId, s.tags.waiting[x] = some .read → ∃ m, s.tank x = .reading m) ∧
  (∀ tx, (s.tags.phase = .request tx ∨ ∃ n, s.tags.phase = .turnaround tx n) → tx.op = .read →
    (∃ m, s.tank tx.slot = .reading m) ∧ s.tags.waiting[tx.slot] ≠ some .read)

/-- R117: the entries of the stop list stand in strictly ascending positions, and none is empty. -/
def Media.ordered (m : Media) : Prop :=
  m.stops.Pairwise (fun a b => a.position < b.position) ∧ ∀ e ∈ m.stops, e.actions ≠ []

/-- A GRANT or a FEED is outstanding on the engine link (R142). -/
def State.moving (s : State) : Prop :=
  (∃ x a ab, s.engine.op = some ⟨.swath x a, ab⟩) ∨ ∃ n p ab, s.engine.op = some ⟨.feed n p, ab⟩

/-- The first stop entry stands at P, and a handed action of it has a property (R118). -/
def State.handedAtHead (s : State) (p : StopAction → Prop) : Prop :=
  ∃ e es a, s.media.stops = e :: es ∧ e.position ≤ s.media.position ∧ a ∈ e.actions ∧ a.handed = true ∧ p a

/-- R142, the media-still law, in its first clause, with what it rests on: under a moving engine the cutter holds
no action but an ignored one that waits in WORN, and no read but a discarded one waits for the settle time; an action that the cutter holds and that is not ignored, and a
read that waits and is not discarded, stand handed in the entry at P; a stop action names a ticket of the path and
stands before that ticket's trail cut (R114, R117); and a ticket's lead margin and image are shorter than its L. -/
def State.mediaStill (s : State) : Prop :=
  (s.moving → (∀ x n h, s.cutter.state ≠ .cutting x n h) ∧ s.colour.sensor ≠ .measuring ∧
    s.colour.sensor ≠ .calibrating) ∧
  (s.moving → (∀ h, s.cutter.state ≠ .jammed h) ∧ (∀ h, s.cutter.state = .worn (some h) → h.ignored = true) ∧
    (s.colour.settle ≠ none → ∀ h, s.colour.held = some h → h.discard = true)) ∧
  (∀ h, (∃ x n, s.cutter.state = .cutting x n h) ∨ s.cutter.state = .jammed h ∨ s.cutter.state = .worn (some h) →
    h.ignored = false → s.handedAtHead fun a => h.kind.fits a.kind = true ∧ a.ticket = h.ticket) ∧
  (s.colour.settle ≠ none → ∀ h, s.colour.held = some h → h.discard = false →
    s.handedAtHead fun a => a.kind = .patchRead ∧ a.ticket = h.ticket) ∧
  (∀ a ∈ s.media.placed, a.2.ticket ∈ s.desk.path ∧ (a.2.kind = .trailCut ∨
    ∃ b ∈ s.media.placed, b.2.kind = .trailCut ∧ b.2.ticket = a.2.ticket ∧ a.1 < b.1)) ∧
  (∀ x k, s.ticket x = some k → k.lm + k.li < k.l)

/-- The tickets of an edition that have not closed. -/
def State.unclosedOf (s : State) (i : EditionId) : List TicketId :=
  (List.finRange 8).filter fun x => match s.ticket x with | some k => k.edition == i && k.state.unclosed | none => false

/-- R15: of every edition, the good count, the unclosed tickets and the return list make up the numbers below
the next one, which is at most N + 1, and the last two hold different numbers, at most 8 together. With it
stands what its moves rest on: an unclosed ticket's edition is not FREE; the queues hold each ADMITTED and each
started ticket once (2.2); an unlocked edition has issued nothing (R6); and a ticket has one TRAIL_CUT at most,
while it is in the path queue (R117). -/
def State.numberingSound (s : State) : Prop :=
  (∀ i e, s.edition i = some e →
    e.inFlight = (s.unclosedOf i).length ∧ e.good + e.inFlight + e.returns.length + 1 = e.next ∧
    1 ≤ e.size ∧ e.next ≤ e.size + 1 ∧ e.returns.length + e.inFlight ≤ 8 ∧ (e.locked = false → e.next = 1) ∧
    (s.numbersOf (s.unclosedOf i) ++ e.returns).Nodup ∧
    ∀ n ∈ s.numbersOf (s.unclosedOf i) ++ e.returns, 1 ≤ n ∧ n < e.next) ∧
  (∀ x k, s.ticket x = some k → k.state.unclosed = true → s.edition k.edition ≠ none) ∧
  s.desk.admitted.Nodup ∧ s.desk.path.Nodup ∧
  (∀ x, x ∈ s.desk.admitted ↔ ∃ k, s.ticket x = some k ∧ k.state = .admitted) ∧
  (∀ x, x ∈ s.desk.path ↔ ∃ k, s.ticket x = some k ∧ k.state.started = true) ∧
  ((s.media.placed.filter fun a => a.2.kind == .trailCut).map (·.2.ticket)).Nodup ∧
  (∀ a ∈ s.media.placed, a.2.kind = .trailCut → a.2.ticket ∈ s.desk.path)

/-- The ranges of R153 and R157. -/
def Colour.sound (c : Colour) : Prop :=
  c.calCount ≤ 50 ∧ c.exchange < 256 ∧ ∀ r : RefsetId, c.sets[r].targets.length ≤ 24

/-- R156: each set's use count is the number of non-FREE editions naming it, and a set that is named holds
targets. -/
def State.useCountsRight (s : State) : Prop :=
  (∀ r : RefsetId, (s.refset r).useCount =
    ((List.finRange 64).filter fun i => match s.edition i with | some e => e.refset == some r | none => false).length) ∧
  ∀ i e r, s.edition i = some e → e.refset = some r → (s.refset r).targets ≠ []

end Sys2Proof.Machine
end

