-- ==== Sys2Proof/Certificates/Slice0/Obligations.lean ====
section
/-! DEFINITION. The statements for the provers, family by family in the order of the opcode table's
chapters. A host request is stated for a frame that is executed in the event of its arrival
(`State.takesAtOnce`); `State.asked` is the state its block finds, `State.answers` what its reply leaves, and
`State.settle` the end of the event, of which the statements of chapter 7 say what it may begin. -/

open Sys2Proof Sys2Proof.Machine

/-! ## The machine -/

/-- A step takes the command at the front of the queue and is its execution with the queue's rest. -/
def Obligations.StepRunsTheFrontCommand : Prop :=
  ∀ (c : Instr) (cs : List Instr) (s : State), s.pending = c :: cs → step s = exec c (s.withPending cs)

/-- Log entry 2 (the model's choice): with no command waiting, a timer that stands at 0 expires; else each
running timer falls by 1 ms, and no record, queue or line changes. -/
def Obligations.QuietPartTakesExpiriesAndCountsDown : Prop :=
  ∀ s : State, s.pending = [] →
    (∀ c, s.due = some c → step s = exec c s) ∧
    (s.due = none → ∃ t, step s = .next t ∧ s.sameBut [.tags, .supply, .cutter, .colour, .engine, .desk, .media, .run] t ∧
      t.run = { s.run with dozeTimer := s.run.dozeTimer.map (· - 1), capTimer := s.run.capTimer.map (· - 1) } ∧
      t.media = { s.media with ejectTimer := s.media.ejectTimer.map (· - 1) } ∧
      t.engine = { s.engine with swathTimer := s.engine.swathTimer.map (· - 1) } ∧
      t.colour = { s.colour with timer := s.colour.timer.map (· - 1), settle := s.colour.settle.map (· - 1) } ∧
      (∀ i : TicketId, t.ticket i = (s.ticket i).map fun k => { k with pauseTimer := k.pauseTimer.map (· - 1) }) ∧
      (∀ c : ChannelId, t.channel c = match (s.channel c).feed with
        | .switching x n => { s.channel c with feed := .switching x (n - 1) }
        | _ => s.channel c) ∧
      t.supply.tanks = s.supply.tanks ∧ t.supply.presence = s.supply.presence ∧
      t.desk = { s.desk with tickets := t.desk.tickets } ∧ t.tags = { s.tags with phase := t.tags.phase } ∧
      t.tags.phase = (match s.tags.phase with
        | .turnaround tx n => .turnaround tx (n - 1)
        | .guard n => .guard (n - 1)
        | p => p) ∧
      t.cutter = { s.cutter with state := match s.cutter.state with
        | .cutting x n h => .cutting x (n - 1) h
        | c => c } ∧
      t.out = [])

/-- No command puts another into the queue or takes one out of it, and every command has a next state. -/
def Obligations.CommandsLeaveTheQueue : Prop :=
  ∀ (c : Instr) (s : State), ∃ t, exec c s = .next t ∧ t.pending = s.pending

/-- R186, with the reset columns of the other blocks (R22, R43, R65, R66, R88, R102, R111, R125, R144, R153,
R157, R172). Every record takes its reset value whatever it was; the input lines keep their levels, a seated
tank is being read and its READ is queued, but for the first, which is on the bus (R66, R88, R98). -/
def Obligations.ResetReturnsEveryRecord : Prop :=
  ∀ s : State, ∃ t, exec .reset s = .next t ∧ t.pending = s.pending ∧
    (∀ i : EditionId, t.edition i = none) ∧ (∀ i : TicketId, t.ticket i = none) ∧ t.desk.admitted = [] ∧
    t.desk.path = [] ∧ t.desk.serial = 0 ∧ t.desk.pauseLimit = 120 ∧
    (∀ c : ChannelId, t.costing.volumes[c] = { small := 20, medium := 50, large := 120 } ∧ t.costing.residues[c] = 0) ∧
    t.costing.cutFee = 0 ∧ t.costing.checkFee = 0 ∧ t.costing.house = 0 ∧ t.costing.houseSaturated = false ∧
    (∀ c : ChannelId, t.channel c =
      { feed := .starved, valve := .a, floor := 30, level := 2, lastPrice := 0, overdraw := 0 }) ∧
    t.supply.presence = s.supply.presence ∧
    (∀ x : TankId, t.tank x = if s.supply.presence[x] then .reading none else .empty) ∧
    (∀ x : TankId, t.tags.images[x] = none) ∧
    (∀ x : TankId, t.tags.waiting[x] =
      if s.supply.presence[x] && (List.finRange 24).any (fun y => decide (y < x) && s.supply.presence[y]) then some .read
      else none) ∧
    ((∀ x : TankId, s.supply.presence[x] = false) → t.tags.phase = .idle ∧ t.tags.pointer = 23 ∧ t.out = []) ∧
    (∀ x : TankId, s.supply.presence[x] = true → (∀ y : TankId, y < x → s.supply.presence[y] = false) →
      t.tags.phase = .request { slot := x, op := .read, retry := false } ∧ t.tags.pointer = x ∧
        t.out = [.tag (readFrame x)]) ∧
    (∀ r : RollId, t.roll r = none) ∧ t.media.mediaPresent = s.media.mediaPresent ∧ t.media.rollEnd = s.media.rollEnd ∧
    t.media.position = 0 ∧ t.media.pathEnd = -750 ∧ t.media.stops = [] ∧ t.media.ejectDelay = 300 ∧
    t.media.ejectTimer = none ∧ t.media.eject = false ∧
    t.engine = { op := none, request := none, owed := none, swathTimer := none, lastFault := none } ∧
    t.cutter = { state := .worn none, life := 0,
                 side := if s.cutter.endLine && !s.cutter.homeLine then .farEnd else .homeEnd,
                 homeLine := s.cutter.homeLine, endLine := s.cutter.endLine } ∧
    (∀ r : RefsetId, t.refset r = { targets := [], useCount := 0 }) ∧ t.colour.sensor = .uncalibrated ∧
    t.colour.calCount = 0 ∧ t.colour.exchange = 0 ∧ t.colour.held = none ∧ t.colour.timer = none ∧
    t.colour.settle = some 10000 ∧ t.colour.lastError = none ∧
    t.run.state = .engineWait ∧ t.run.haltCause = none ∧ t.run.protocolError = false ∧ t.run.headsAtHalt = none ∧
    t.run.resumeWait = false ∧ t.run.dozeLimit = 300 ∧ t.run.capLimit = 1800 ∧ t.run.dozeTimer = none ∧
    t.run.capTimer = none ∧ t.run.reload = 0b11011#5 ∧
    (∀ c : ChannelId, t.run.lightVolumes[c] = 150000 ∧ t.run.heavyVolumes[c] = 600000 ∧ t.run.needsPurge[c] = none) ∧
    t.run.wake = none ∧ t.run.slot = none ∧ t.run.manual = none ∧
    t.link = { command := [], receipt := none, reply := [], inProgress := none, limit := 64, lastError := none } ∧
    t.notices = { pending := 0, enabled := 0x3FFFF } ∧ t.date = 0

/-! ## The command link -/

/-- R190, R174: a request that is executed is answered by exactly one reply, which carries its tag; at every
execution (R190, step 2) the source REQUEST reloads the idle timers: a running one takes its limit, a stopped
one stays stopped, and nothing else moves. -/
def Obligations.EveryRequestIsAnsweredOnce : Prop :=
  (∀ (c : Instr) (tag : Nat) (r : Request) (s : State), requestOf c = some (tag, r) → s.takesAtOnce r →
     ∃ t, exec c s = .next t ∧ t.repliesSent = [(tag, (handle r s.asked).2.status)]) ∧
  (∀ s : State, s.sameBut [.run] s.asked ∧
     (s.run.reload.getLsbD 2 = false → s.asked.run = s.run) ∧
     (s.run.reload.getLsbD 2 = true → s.asked.run = { s.run with
       dozeTimer := if s.run.dozeTimer.isSome && s.run.dozeLimit != 0 then some (s.run.dozeLimit * 1000) else none,
       capTimer := if s.run.capTimer.isSome && s.run.capLimit != 0 then some (s.run.capLimit * 1000) else none }))

/-- R190, steps 3 and 4, and R197: a request that its block refuses changes no record, and its reply has an
empty body; a code outside the table is answered UNKNOWN, and no block is reached. The idle timers have been
reloaded where REQUEST is a source (R190, step 2). -/
def Obligations.RefusedRequestsChangeNothing : Prop :=
  (∀ (c : Instr) (tag : Nat) (r : Request) (s : State), requestOf c = some (tag, r) → s.takesAtOnce r →
     (handle r s.asked).2.status ≠ .ok →
     ∃ t, exec c s = .next t ∧ s.asked.answers t tag (handle r s.asked).2.status .empty) ∧
  (∀ (tag code n : Nat) (s : State), s.takesAtOnce (.unknownRequest code n) →
     ∃ t, exec (.unknownRequest tag code n) s = .next t ∧ s.asked.answers t tag .unknown .empty)

/-- R187, R188, R189: a request's frame that finds no room is discarded OVERRUN; one that finds room while a
condition of R189 fails waits behind the frames already there, unexecuted. That the frame arrives whole, is
judged at once and leaves the reply buffer as it is, where R192 clocks a reply byte out for each byte in, is
the model's choice (log entry 5). -/
def Obligations.FramesWaitOrAreDiscarded : Prop :=
  ∀ (c : Instr) (tag : Nat) (r : Request) (s : State), requestOf c = some (tag, r) →
    (s.link.freeCommand < 6 + bodyLengthOf r →
      ∃ t, exec c s = .next t ∧ s.sameBut [.link, .notices] t ∧ t.link = { s.link with lastError := some .overrun } ∧
        t.notices = { s.notices with pending := s.notices.pending ||| 1#18 <<< 17 } ∧ t.out = []) ∧
    (6 + bodyLengthOf r ≤ s.link.freeCommand → (s.link.inProgress.isSome ∨ s.link.freeReply < s.link.limit + 6) →
      ∃ t, exec c s = .next t ∧ s.sameBut [.link] t ∧ t.out = [] ∧
        t.link = { s.link with command := s.link.command ++ [{ length := 6 + bodyLengthOf r, tag := tag, request := r }] })

/-- R191 and the reply header of 12.1, whose bits beside the continued flag are sent as 0 by the model's choice (log
entry 57): an executed request's reply is placed as its frames, in their order and
whole, as far as the reply buffer has room; the rest stays in progress under the limit in force at the
execution. REPLY_FRAME_PLACE goes on in the same way, and R189 is then tested; with no reply in progress it
changes nothing but by that test. -/
def Obligations.ReplyFramesArePlacedInOrder : Prop :=
  (∀ (c : Instr) (tag : Nat) (r : Request) (s : State), requestOf c = some (tag, r) → s.takesAtOnce r →
     6 < s.link.limit →
     ∃ t, exec c s = .next t ∧
       ReplyInProgress.placedInto
         { tag := tag, status := (handle r s.asked).2.status, rest := (handle r s.asked).2.body.bytes,
           limit := s.link.limit } s.link.reply t.link.reply t.link.inProgress) ∧
  (∀ (p : ReplyInProgress) (s : State), s.link.inProgress = some p → 6 < p.limit →
     ∃ new left, p.placedInto s.link.reply new left ∧
       exec .replyFramePlace s =
         .next (State.runLink (s.begin.withLink { s.link with reply := new, inProgress := left })) ∧
       (s.link.command = [] ∨ left ≠ none ∨ 1024 < new.length + s.link.limit + 6 →
         exec .replyFramePlace s = .next (s.begin.withLink { s.link with reply := new, inProgress := left }))) ∧
  (∀ s : State, s.link.inProgress = none →
     exec .replyFramePlace s = .next (State.runLink s.begin) ∧
     (s.link.command = [] ∨ 1024 < s.link.reply.length + s.link.limit + 6 →
       exec .replyFramePlace s = .next s.begin))

/-- R187, R192: a byte clocked in joins the frame in receipt where it is kept and finds room, and the oldest
reply byte, or FFh, is clocked out; no reply is in progress, and no frame waits or the reply buffer keeps those
waiting (R189). That the first two bytes clocked in give the declared length though they find no room, and that
a byte of a transfer whose length no frame can have takes no room, are the model's choices (log entries 7 and
35). -/
def Obligations.ClockedByteIsKeptAndOneLeaves : Prop :=
  ∀ (b : Byte) (s : State), (s.link.command = [] ∨ 1024 < s.link.reply.length + s.link.limit + 5) →
    s.link.inProgress = none →
    ∃ t, exec (.byteClocked b) s = .next t ∧ s.sameBut [.link] t ∧
      t.out = [.byte (s.link.reply.headD 0xFF)] ∧
      (let r := s.link.receipt.getD { stored := [], head := [], clocked := 0, lost := false }
       let keeps := r.clocked < 2 ∨ (6 ≤ ofBytes r.head ∧ ofBytes r.head ≤ 256)
       ∃ r' : Receipt, t.link = { s.link with receipt := some r', reply := s.link.reply.drop 1 } ∧
        r'.clocked = r.clocked + 1 ∧ r'.head = (if r.clocked < 2 then r.head ++ [b] else r.head) ∧
        (keeps → r.lost = false → s.link.freeCommand ≠ 0 → r'.stored = r.stored ++ [b] ∧ r'.lost = false) ∧
        (keeps → r.lost = false → s.link.freeCommand = 0 → r'.stored = r.stored ∧ r'.lost = true) ∧
        (¬ keeps ∨ r.lost = true → r'.stored = r.stored ∧ r'.lost = r.lost))

/-- R187 to R190, R197: the select rise frees a transfer of fewer than 2 bytes and a read transfer, and discards
a frame by the first check of R188 that applies, with LINK_ERROR. A frame that passes waits where a condition of
R189 fails; where no frame waits before it and both hold it is executed at once, as the request its bytes spell,
and is answered RANGE where its code is in the table of 12.1 and its body is not one of that code. That a lost
length byte still gives the declared length, by which a transfer is a read transfer or is judged, is the model's
choice (log entries 7 and 35); that a STOP or CUTTER_CLEAR byte outside its codes is RANGE in every state, before
R149's and R183's BAD_STATE, is the model's reading (log entry 22). -/
def Obligations.SelectRiseJudgesTheTransfer : Prop :=
  ((∀ s : State, s.link.receipt = none →
     ∃ t, exec .frameReceive s = .next t ∧ s.sameBut [] t ∧ t.out = []) ∧
   (∀ (r : Receipt) (s : State), s.link.receipt = some r → (r.clocked < 2 ∨ ofBytes r.head = 0) →
     ∃ t, exec .frameReceive s = .next t ∧ s.sameBut [.link] t ∧ t.out = [] ∧ t.link = { s.link with receipt := none }) ∧
   (∀ (r : Receipt) (s : State) (e : LinkError), s.link.receipt = some r → 2 ≤ r.clocked → ofBytes r.head ≠ 0 →
     (if ofBytes r.head < 6 ∨ 256 < ofBytes r.head ∨ ofBytes r.head < r.clocked then e = .length
      else if r.lost then e = .overrun
      else r.clocked < ofBytes r.head ∧ e = .short) →
     ∃ t, exec .frameReceive s = .next t ∧ s.sameBut [.link, .notices] t ∧ t.out = [] ∧
       t.link = { s.link with receipt := none, lastError := some e } ∧
       t.notices = { s.notices with pending := s.notices.pending ||| 1#18 <<< 17 })) ∧
  (∀ (r : Receipt) (s : State), s.link.receipt = some r → 2 ≤ r.clocked → r.lost = false →
     6 ≤ ofBytes r.head → ofBytes r.head ≤ 256 → r.clocked = ofBytes r.head →
     ((s.link.inProgress.isSome ∨ s.link.freeReply < s.link.limit + 6) →
       ∃ t, exec .frameReceive s = .next t ∧ s.sameBut [.link] t ∧ t.out = [] ∧
         t.link = { s.link with receipt := none, command := s.link.command ++
           [{ length := ofBytes r.head, tag := field r.stored 4 2,
              request := decodeRequest (field r.stored 2 2) (r.stored.drop 6) }] }) ∧
     (s.link.command = [] → s.link.ready = true →
       (∀ c, requestOf c = some (field r.stored 4 2, decodeRequest (field r.stored 2 2) (r.stored.drop 6)) →
         6 + bodyLengthOf (decodeRequest (field r.stored 2 2) (r.stored.drop 6)) ≤ 1024 →
         ∃ t, exec .frameReceive s = .next t ∧ exec c (s.withLink { s.link with receipt := none }) = .next t) ∧
       (wrongBody (field r.stored 2 2) (r.stored.drop 6) →
         ∃ t, exec .frameReceive s = .next t ∧
           (s.withLink { s.link with receipt := none }).asked.answers t (field r.stored 4 2) .range .empty)))

/-! ## Requests that read -/

/-- R3, R41, R46, R62, R86, R101, R124, R143, R152, R155, R170, R185, R194: the requests that read answer OK
with the records as they stand, and change nothing. -/
def Obligations.ReadsChangeNothing : Prop :=
  (∀ (tag : Nat) (s : State),
     (∀ i : EditionId, s.takesAtOnce (.editionGet i.val) →
       ∃ t, exec (.editionGet tag i.val) s = .next t ∧ s.asked.answers t tag .ok (.edition (s.edition i))) ∧
     (∀ (i : EditionId) (e : Edition), s.edition i = some e →
       (∀ j f, s.edition j = some f → f.label = e.label → j = i) → s.takesAtOnce (.editionFind e.label) →
       ∃ t, exec (.editionFind tag e.label) s = .next t ∧ s.asked.answers t tag .ok (.slot i.val)) ∧
     (∀ i : TicketId, s.takesAtOnce (.ticketGet i.val) →
       ∃ t, exec (.ticketGet tag i.val) s = .next t ∧ s.asked.answers t tag .ok (.statement i (s.ticket i))) ∧
     (s.takesAtOnce .ticketList → ∃ t, exec (.ticketList tag) s = .next t ∧
       s.asked.answers t tag .ok (.ticketList
         ((List.finRange 8).map fun i => (s.ticket i).map fun k =>
           { state := k.state, serial := k.serial, edition := k.edition, number := k.number })
         s.desk.admitted s.desk.path s.desk.pauseLimit)) ∧
     (s.takesAtOnce .meterGet → ∃ t, exec (.meterGet tag) s = .next t ∧
       s.asked.answers t tag .ok (.meter s.costing.volumes s.costing.residues s.costing.cutFee s.costing.checkFee)) ∧
     (s.takesAtOnce .houseGet → ∃ t, exec (.houseGet tag) s = .next t ∧
       s.asked.answers t tag .ok (.house
         (s.costing.house / 1000000 + (if 500000 ≤ s.costing.house % 1000000 then 1 else 0))
         (s.costing.house % 1000000) s.costing.houseSaturated)) ∧
     (s.takesAtOnce .noticeRead → ∃ t, exec (.noticeRead tag) s = .next t ∧
       s.asked.answers t tag .ok (.notices s.notices.pending s.notices.enabled s.link.lastError))) ∧
  (∀ (tag : Nat) (s : State),
     (∀ x : TankId, s.takesAtOnce (.tankGet x.val) →
       ∃ t, exec (.tankGet tag x.val) s = .next t ∧ s.asked.answers t tag .ok (.tank (s.tank x))) ∧
     (∀ c : ChannelId, s.takesAtOnce (.channelGet c.val) →
       ∃ t, exec (.channelGet tag c.val) s = .next t ∧ s.asked.answers t tag .ok
         (.channel (s.channel c) s.run.needsPurge[c] (s.tank (tankOf c .a)).state (s.tank (tankOf c .b)).state)) ∧
     (s.takesAtOnce .tagbusGet → ∃ t, exec (.tagbusGet tag) s = .next t ∧
       s.asked.answers t tag .ok (.tagBus s.tags.phase s.tags.pointer s.tags.waiting)) ∧
     (∀ r : RollId, s.takesAtOnce (.rollGet r.val) → ∃ t, exec (.rollGet tag r.val) s = .next t ∧
       s.asked.answers t tag .ok (.roll (s.roll r) s.media.mediaPresent[r] s.media.rollEnd[r] (s.reservation r))) ∧
     (s.takesAtOnce .pathGet → ∃ t, exec (.pathGet tag) s = .next t ∧
       s.asked.answers t tag .ok (.path s.activeRoll s.media.position s.media.pathEnd s.media.ejectDelay
         s.media.ejectTimer s.media.eject s.media.stops)) ∧
     (s.takesAtOnce .engineGet → ∃ t, exec (.engineGet tag) s = .next t ∧
       s.asked.answers t tag .ok (.engine s.engine (match s.engine.request with
         | some q => s.holds q.ticket
         | none => []))) ∧
     (s.takesAtOnce .cutterGet → ∃ t, exec (.cutterGet tag) s = .next t ∧ s.asked.answers t tag .ok (.cutter s.cutter)) ∧
     (∀ r : RefsetId, s.takesAtOnce (.refsetGet r.val) → ∃ t, exec (.refsetGet tag r.val) s = .next t ∧
       s.asked.answers t tag .ok (.refset (s.refset r).useCount (s.refset r).targets)) ∧
     (s.takesAtOnce .sensorGet → ∃ t, exec (.sensorGet tag) s = .next t ∧
       s.asked.answers t tag .ok (.sensor s.colour.sensor s.colour.calCount
         (decide (s.colour.sensor = .uncalibrated ∨ (s.colour.sensor = .idle ∧ s.colour.calCount = 50)))
         s.colour.exchange
         (s.colour.held.map fun h =>
           { ticket := h.ticket, set := h.set, patches := h.patches, retry := h.retry, discard := h.discard })
         s.colour.timer s.colour.lastError)) ∧
     (s.takesAtOnce .runGet → ∃ t, exec (.runGet tag) s = .next t ∧
       s.asked.answers t tag .ok (.run { s.asked.run with wanted := none }
         (match s.run.slot, s.engine.op with
           | some ⟨.purge _, true⟩, some ⟨.purge set volumes, _⟩ => some (set, volumes)
           | _, _ => none))))

/-! ## Requests that set -/

/-- R45, R63: FEE_SET clamps each fee and replaces both; HOUSE_CLEAR reports the account and empties it. -/
def Obligations.FeesAndTheHouseAccount : Prop :=
  (∀ (tag cut check : Nat) (s : State), s.takesAtOnce (.feeSet cut check) →
     ∃ t, exec (.feeSet tag cut check) s = .next t ∧
       (s.asked.withCosting { s.costing with cutFee := min cut 1000000, checkFee := min check 1000000 }).answers t tag
         .ok (.fees (min cut 1000000) (min check 1000000))) ∧
  (∀ (tag : Nat) (s : State), s.takesAtOnce .houseClear →
     ∃ t, exec (.houseClear tag) s = .next t ∧
       (s.asked.withCosting { s.costing with house := 0, houseSaturated := false }).answers t tag .ok
         (.house (s.costing.house / 1000000 + (if 500000 ≤ s.costing.house % 1000000 then 1 else 0))
           (s.costing.house % 1000000) s.costing.houseSaturated))

/-- R36, R44, R174, R179: the drop volumes, the pause and idle limits with the reload sources, and the purge
volumes are clamped and stored; a running timer is not reloaded, and no residue moves. A channel above 11 is
refused BAD_SLOT, a level of neither code RANGE. That every byte is accepted as a set of reload sources, and its
bits above the five are not read, is the model's choice (log entry 10). -/
def Obligations.SettingsAreClampedAndStored : Prop :=
  (∀ (tag n small medium large : Nat) (s : State), s.takesAtOnce (.dropVolumesSet n small medium large) →
     (∀ c : ChannelId, c.val = n → ∃ t, exec (.dropVolumesSet tag n small medium large) s = .next t ∧
       ∃ v : DropVolumes, v = { small := max 1 (min small 400), medium := max 1 (min medium 400),
                                large := max 1 (min large 400) } ∧
         (s.asked.withCosting { s.costing with volumes := put s.costing.volumes c v }).answers t tag .ok (.dropVolumes v)) ∧
     (11 < n → ∃ t, exec (.dropVolumesSet tag n small medium large) s = .next t ∧
       s.asked.answers t tag .badSlot .empty)) ∧
  (∀ (tag : Nat) (s : State),
     (∀ n, s.takesAtOnce (.pauseLimitSet n) → ∃ t, exec (.pauseLimitSet tag n) s = .next t ∧
       (s.asked.withDesk { s.desk with pauseLimit := min n 600 }).answers t tag .ok (.pauseLimit (min n 600))) ∧
     (∀ doze cap sources, s.takesAtOnce (.idleTimersSet doze cap sources) →
       ∃ t, exec (.idleTimersSet tag doze cap sources) s = .next t ∧
         ∃ d c, d = (if doze = 0 then 0 else if doze < 30 then 30 else if 3600 < doze then 3600 else doze) ∧
           c = (if cap = 0 then 0 else if cap < 60 then 60 else if 86400 < cap then 86400 else cap) ∧
           (s.asked.withRun { s.asked.run with dozeLimit := d, capLimit := c, reload := sources.setWidth 5 }).answers t
             tag .ok (.idleTimers d c (sources.setWidth 5)))) ∧
  (∀ (tag level : Nat) (v : Vector Nat 12) (s : State), s.takesAtOnce (.purgeVolumesSet level v) →
     ∃ t w, exec (.purgeVolumesSet tag level v) s = .next t ∧ (∀ c : ChannelId, w[c] = min v[c] 2000000) ∧
       (level = 0 → (s.asked.withRun { s.asked.run with lightVolumes := w }).answers t tag .ok (.purgeVolumes w)) ∧
       (level = 1 → (s.asked.withRun { s.asked.run with heavyVolumes := w }).answers t tag .ok (.purgeVolumes w)) ∧
       (2 ≤ level → s.asked.answers t tag .range .empty))

/-- R194, R196: NOTICE_CLEAR reports the pending set and clears the kinds it carries, LINK_ERROR with the last
link error; NOTICE_ENABLE writes the enable set; a limit that LINK_SET carries is clamped to 16..256 and
stored, and its reply carries the settings; a LINK_SET that carries nothing changes nothing. That bits of a set
that name no kind are not read is the model's choice (log entry 10). -/
def Obligations.NoticesAndLinkSettings : Prop :=
  (∀ (tag : Nat) (kinds : BitVec 24) (s : State),
     (s.takesAtOnce (.noticeClear kinds) → ∃ t u : State, exec (.noticeClear tag kinds) s = .next t ∧
       u.answers t tag .ok (.noticeSet s.notices.pending) ∧ s.asked.sameBut [.notices, .link] u ∧ u.out = [] ∧
       u.notices.enabled = s.notices.enabled ∧
       (∀ k : Fin 18, u.notices.pending.getLsbD k = (s.notices.pending.getLsbD k && !kinds.getLsbD k)) ∧
       u.link = { s.link with lastError := if kinds.getLsbD 17 then none else s.link.lastError }) ∧
     (s.takesAtOnce (.noticeEnable kinds) → ∃ t set, exec (.noticeEnable tag kinds) s = .next t ∧
       (∀ k : Fin 18, BitVec.getLsbD set k = kinds.getLsbD k) ∧
       (s.asked.withNotices { s.notices with enabled := set }).answers t tag .ok (.noticeSet set))) ∧
  (∀ (tag : Nat) (s : State),
     (∀ n, s.takesAtOnce (.linkSet (some n)) → ∃ t, exec (.linkSet tag (some n)) s = .next t ∧
       (s.asked.withLink { s.link with limit := max 16 (min n 256) }).answers t tag .ok
         (.linkSettings (max 16 (min n 256)) s.date s.link.lastError s.link.freeCommand s.link.freeReply)) ∧
     (s.takesAtOnce (.linkSet none) → ∃ t, exec (.linkSet tag none) s = .next t ∧
       s.asked.answers t tag .ok
         (.linkSettings s.link.limit s.date s.link.lastError s.link.freeCommand s.link.freeReply)))

/-! ## Editions -/

/-- R4 with R1, R2 and R197: a creation that passes every check puts the record into the FREE slot, its
tolerances and threshold clamped in their order and its pins the lots that feed, and counts the set it names;
one that fails is refused with the status of the first check that does. -/
def Obligations.EditionCreateStoresTheEdition : Prop :=
  (∀ (tag : Nat) (i : EditionId) (p : EditionParams) (set : Option RefsetId) (s : State),
     s.takesAtOnce (.editionCreate i.val p) → s.edition i = none →
     (∀ j e, s.edition j = some e → e.label ≠ p.label) → 1 ≤ p.size → p.size ≤ 9999 → 1 ≤ p.mediaClass →
     p.mediaClass ≤ 255 → p.channels ≠ 0 → p.channels.toNat < 4096 →
     (p.policy = 0 ∧ set = none ∨
       p.policy = 1 ∧ ∃ r : RefsetId, p.refset = r.val ∧ (s.refset r).targets ≠ [] ∧ set = some r) →
     ∃ t u : State, exec (.editionCreate tag i.val p) s = .next t ∧ u.answers t tag .ok (.slot i.val) ∧
       s.asked.sameBut [.editions, .colour] u ∧ u.out = [] ∧ (∀ j, j ≠ i → u.edition j = s.edition j) ∧
       u.colour = { s.colour with sets := u.colour.sets } ∧
       (∀ r, u.refset r =
         { s.refset r with useCount := (s.refset r).useCount + (if set = some r then 1 else 0) }) ∧
       ∃ e, u.edition i = some e ∧ e.label = p.label ∧ e.state = .opened ∧ e.size = p.size ∧ e.next = 1 ∧ e.good = 0 ∧
         e.spoiled = 0 ∧ e.unverified = 0 ∧ e.returns = [] ∧ e.inFlight = 0 ∧ e.mediaClass = p.mediaClass ∧
         e.channels = p.channels.setWidth 12 ∧
         (∀ c : ChannelId, e.pins[c] = if p.channels.getLsbD c.val then s.feedingLot c else none) ∧
         e.requalify = false ∧ e.refset = set ∧ e.tmax = max 10 (min p.tmax 2000) ∧
         e.tmean = max 10 (min p.tmean e.tmax) ∧ e.twarn = min p.twarn e.tmean ∧ e.strict = p.strict ∧
         e.trim = p.trim ∧ e.holdThreshold = max 1 (min p.holdThreshold 7) ∧ e.fails = 0 ∧ e.locked = false ∧
         e.goodCost = 0 ∧ e.spoilCost = 0 ∧ e.goodInk = 0 ∧ e.goodMedia = 0) ∧
  (∀ (tag slot : Nat) (p : EditionParams) (st : Status) (s : State), s.takesAtOnce (.editionCreate slot p) →
     (if 63 < slot then st = .badSlot
      else if ∃ i : EditionId, i.val = slot ∧ s.edition i ≠ none then st = .badState
      else if ∃ j e, s.edition j = some e ∧ e.label = p.label then st = .duplicate
      else if p.size < 1 ∨ 9999 < p.size ∨ p.mediaClass < 1 ∨ 255 < p.mediaClass ∨ p.channels = 0 ∨
          4096 ≤ p.channels.toNat ∨ 2 ≤ p.policy then st = .range
      else if p.policy = 1 ∧ 15 < p.refset then st = .range
      else p.policy = 1 ∧ st = .noRefset ∧ ∃ r : RefsetId, r.val = p.refset ∧ (s.refset r).targets = []) →
     ∃ t, exec (.editionCreate tag slot p) s = .next t ∧ s.asked.answers t tag st .empty)

/-- R5: an accepted EDITION_SET replaces every supplied group at once, re-takes the pins of a changed channel
set, and moves the use counts where the reference set changes; one that fails is refused with the status of the
first check that does. That bits 9 to 15 of the group set are not read is the model's choice (log entry 10); that
a channel set supplied as it stands re-takes no pin is read from "a changed channel set" (log entry 17). -/
def Obligations.EditionSetReplacesTheSuppliedGroups : Prop :=
  (∀ (tag : Nat) (i : EditionId) (g : BitVec 16) (p : EditionParams) (e : Edition) (set : Option RefsetId) (s : State),
    s.takesAtOnce (.editionSet i.val g p) → s.edition i = some e → e.state ≠ .complete → e.state ≠ .closed →
    (g.getLsbD 0 = true → ∀ j f, s.edition j = some f → j ≠ i → f.label ≠ p.label) →
    (e.locked = true → g.getLsbD 1 = false ∧ g.getLsbD 2 = false ∧ g.getLsbD 3 = false) →
    (g.getLsbD 1 = true → 1 ≤ p.size ∧ p.size ≤ 9999) → (g.getLsbD 2 = true → 1 ≤ p.mediaClass ∧ p.mediaClass ≤ 255) →
    (g.getLsbD 3 = true → p.channels ≠ 0 ∧ p.channels.toNat < 4096) →
    (if g.getLsbD 4 then
      (p.policy = 0 ∧ set = none ∨
        p.policy = 1 ∧ ∃ r : RefsetId, p.refset = r.val ∧ (s.refset r).targets ≠ [] ∧ set = some r)
     else set = e.refset) →
    ∃ t u : State, exec (.editionSet tag i.val g p) s = .next t ∧ u.answers t tag .ok .empty ∧
      s.asked.sameBut [.editions, .colour] u ∧ u.out = [] ∧ (∀ j, j ≠ i → u.edition j = s.edition j) ∧
      u.colour = { s.colour with sets := u.colour.sets } ∧
      (∀ r, u.refset r = { s.refset r with useCount :=
        if set = e.refset then (s.refset r).useCount
        else (s.refset r).useCount - (if e.refset = some r then 1 else 0) + (if set = some r then 1 else 0) }) ∧
      ∃ e', u.edition i = some e' ∧
        e' = { e with label := e'.label, size := e'.size, mediaClass := e'.mediaClass, channels := e'.channels,
                      pins := e'.pins, refset := set, tmax := e'.tmax, tmean := e'.tmean, twarn := e'.twarn,
                      strict := e'.strict, trim := e'.trim, holdThreshold := e'.holdThreshold } ∧
        e'.label = (if g.getLsbD 0 then p.label else e.label) ∧ e'.size = (if g.getLsbD 1 then p.size else e.size) ∧
        e'.mediaClass = (if g.getLsbD 2 then p.mediaClass else e.mediaClass) ∧
        e'.channels = (if g.getLsbD 3 then p.channels.setWidth 12 else e.channels) ∧
        (e'.channels = e.channels → e'.pins = e.pins) ∧
        (e'.channels ≠ e.channels → ∀ c : ChannelId,
          e'.pins[c] = if e'.channels.getLsbD c.val then s.feedingLot c else none) ∧
        (if g.getLsbD 5 then
          e'.tmax = max 10 (min p.tmax 2000) ∧ e'.tmean = max 10 (min p.tmean e'.tmax) ∧ e'.twarn = min p.twarn e'.tmean
         else e'.tmax = e.tmax ∧ e'.tmean = e.tmean ∧ e'.twarn = e.twarn) ∧
        e'.strict = (if g.getLsbD 6 then p.strict else e.strict) ∧
        e'.trim = (if g.getLsbD 7 then p.trim else e.trim) ∧
        e'.holdThreshold = (if g.getLsbD 8 then max 1 (min p.holdThreshold 7) else e.holdThreshold)) ∧
  (∀ (tag slot : Nat) (g : BitVec 16) (p : EditionParams) (st : Status) (s : State), s.takesAtOnce (.editionSet slot g p) →
    ((∀ i : EditionId, i.val = slot → s.edition i = none) ∧ st = .badSlot ∨
     ∃ (i : EditionId) (e : Edition), i.val = slot ∧ s.edition i = some e ∧
      (if e.state = .complete ∨ e.state = .closed then st = .badState
       else if g.getLsbD 0 = true ∧ ∃ j f, s.edition j = some f ∧ j ≠ i ∧ f.label = p.label then st = .duplicate
       else if e.locked = true ∧ (g.getLsbD 1 = true ∨ g.getLsbD 2 = true ∨ g.getLsbD 3 = true) then st = .locked
       else if (g.getLsbD 1 = true ∧ (p.size < 1 ∨ 9999 < p.size)) ∨
           (g.getLsbD 2 = true ∧ (p.mediaClass < 1 ∨ 255 < p.mediaClass)) ∨
           (g.getLsbD 3 = true ∧ (p.channels = 0 ∨ 4096 ≤ p.channels.toNat)) ∨
           (g.getLsbD 4 = true ∧ (2 ≤ p.policy ∨ p.policy = 1 ∧ 15 < p.refset)) then st = .range
       else g.getLsbD 4 = true ∧ p.policy = 1 ∧ st = .noRefset ∧
         ∃ r : RefsetId, r.val = p.refset ∧ (s.refset r).targets = [])) →
    ∃ t, exec (.editionSet tag slot g p) s = .next t ∧ s.asked.answers t tag st .empty)

/-- R7, R9, R33, R34: the edition becomes HELD, or CLOSED, its ADMITTED tickets are cancelled with the cause,
and its started tickets lose their qualifying marks. -/
def Obligations.HoldAndCloseWithdrawTheAdmittedTickets : Prop :=
  ∀ (tag : Nat) (i : EditionId) (e : Edition) (xs : List TicketId) (s : State), s.edition i = some e →
    s.desk.admitted.Nodup →
    xs = (s.desk.admitted.filter fun x => match s.ticket x with | some k => k.edition == i | none => false) →
    (s.takesAtOnce (.editionHold i.val) → (e.state = .opened ∨ e.state = .qualify) →
      ∃ t u e', exec (.editionHold tag i.val) s = .next t ∧ (u.settle s.asked).answers t tag .ok .empty ∧
        s.asked.sameBut [.editions, .desk, .notices, .run] u ∧ u.out = [] ∧ s.asked.mayGoIdle u ∧
        s.asked.withdrew u i { e with state := .held, requalify := e.requalify || decide (e.state = .qualify) } e' xs .held
          fun k => if k.edition = i ∧ (k.state = .printing ∨ k.state = .cancelling ∨ k.state = .travelling)
            then { k with qualifying := false } else k) ∧
    (s.takesAtOnce (.editionClose i.val) → (e.state = .opened ∨ e.state = .qualify ∨ e.state = .held) →
      ∃ t u e', exec (.editionClose tag i.val) s = .next t ∧ (u.settle s.asked).answers t tag .ok .empty ∧
        s.asked.sameBut [.editions, .desk, .notices, .run] u ∧ u.out = [] ∧ s.asked.mayGoIdle u ∧
        s.asked.withdrew u i { e with state := .closed, requalify := false } e' xs .cancelled
          fun k => if k.edition = i ∧ (k.state = .printing ∨ k.state = .cancelling ∨ k.state = .travelling)
            then { k with qualifying := false } else k)

/-- R8: a HELD edition is released into QUALIFY, with R21's notice, where requalify-pending was set or a
present pin differs from the lot that feeds its channel; into OPEN otherwise. No ticket of it is ADMITTED, as
R33 leaves it. -/
def Obligations.ReleaseEntersQualifyOrOpen : Prop :=
  ∀ (tag : Nat) (i : EditionId) (e : Edition) (s : State), s.takesAtOnce (.editionRelease i.val) →
    s.edition i = some e → e.state = .held → (∀ x k, x ∈ s.desk.admitted → s.ticket x = some k → k.edition ≠ i) →
    ((e.requalify = true ∨ ∃ c : ChannelId, e.channels.getLsbD c.val = true ∧
        ∃ p lot, e.pins[c] = some p ∧ s.feedingLot c = some lot ∧ p ≠ lot) →
      ∃ t, exec (.editionRelease tag i.val) s = .next t ∧
        (State.settle ((s.asked.setEdition i { e with state := .qualify, fails := 0, requalify := false }).withNotices
          { s.notices with pending := s.notices.pending ||| 0b100#18 }) s.asked).answers t tag .ok (.landing .qualify)) ∧
    (e.requalify = false → (∀ c : ChannelId, e.channels.getLsbD c.val = true → ∀ p lot, e.pins[c] = some p →
        s.feedingLot c = some lot → p = lot) →
      ∃ t, exec (.editionRelease tag i.val) s = .next t ∧
        (State.settle (s.asked.setEdition i { e with state := .opened, fails := 0, requalify := false }) s.asked).answers
          t tag .ok (.landing .opened))

/-- R10: an edition that is neither OPEN nor QUALIFY, with no ticket in flight and none waiting to be
collected, leaves its slot FREE and its reference set with one use less; otherwise BAD_STATE or IN_USE. -/
def Obligations.RetireFreesTheSlot : Prop :=
  ∀ (tag : Nat) (i : EditionId) (e : Edition) (s : State), s.takesAtOnce (.editionRetire i.val) →
    s.edition i = some e →
    ((e.state = .opened ∨ e.state = .qualify) →
      ∃ t, exec (.editionRetire tag i.val) s = .next t ∧ s.asked.answers t tag .badState .empty) ∧
    (e.state ≠ .opened → e.state ≠ .qualify →
      (0 < e.inFlight ∨ ∃ x k, s.ticket x = some k ∧ k.edition = i ∧ (k.state = .closedGood ∨ k.state = .closedSpoiled)) →
      ∃ t, exec (.editionRetire tag i.val) s = .next t ∧ s.asked.answers t tag .inUse .empty) ∧
    (e.state ≠ .opened → e.state ≠ .qualify → e.inFlight = 0 →
      (∀ x k, s.ticket x = some k → k.edition = i → k.state ≠ .closedGood ∧ k.state ≠ .closedSpoiled) →
      ∃ t u : State, exec (.editionRetire tag i.val) s = .next t ∧ u.answers t tag .ok .empty ∧
        s.asked.sameBut [.editions, .colour] u ∧ u.out = [] ∧ u.edition i = none ∧
        (∀ j, j ≠ i → u.edition j = s.edition j) ∧ u.colour = { s.colour with sets := u.colour.sets } ∧
        (∀ r, u.refset r =
          { s.refset r with useCount := (s.refset r).useCount - (if e.refset = some r then 1 else 0) }))

/-- R11: a record that passes every check is stored with nothing in flight, clamped as R2 requires, its pins
outside the channel set dropped, and lands in the state R11 gives. No ticket of the slot is ADMITTED. That the
unused places of its return list are not read is the model's choice (log entry 54). -/
def Obligations.RestoreStoresTheRecordAndLands : Prop :=
  ∀ (tag : Nat) (i : EditionId) (r : RestoreRecord) (st : EditionState) (set : Option RefsetId) (s : State),
    s.takesAtOnce (.editionRestore i.val r) → s.edition i = none →
    (∀ j e, s.edition j = some e → e.label ≠ r.label) → r.state = st.code →
    1 ≤ r.size → r.size ≤ 9999 → 1 ≤ r.mediaClass → r.mediaClass ≤ 255 → r.channels ≠ 0 → r.channels.toNat < 4096 →
    1 ≤ r.next → r.next ≤ r.size + 1 → r.returnLength ≤ 8 →
    (let given := r.returnPlaces.toList.take r.returnLength
     given.Pairwise (· < ·) ∧ (∀ n ∈ given, 1 ≤ n ∧ n ≤ r.next - 1) ∧ r.good + given.length = r.next - 1) →
    r.unverified ≤ r.good → (r.good = r.size → st = .complete ∨ st = .closed) → (st = .complete → r.good = r.size) →
    (r.measure = false ∧ set = none ∨
      r.measure = true ∧ ∃ x : RefsetId, r.refset = x.val ∧ (s.refset x).targets ≠ [] ∧ set = some x) →
    (∀ x k, x ∈ s.desk.admitted → s.ticket x = some k → k.edition ≠ i) →
    ∃ t u e, exec (.editionRestore tag i.val r) s = .next t ∧ u.answers t tag .ok (.landing e.state) ∧
      s.asked.sameBut [.editions, .colour, .notices] u ∧ u.out = [] ∧ u.edition i = some e ∧
      (∀ j, j ≠ i → u.edition j = s.edition j) ∧ u.colour = { s.colour with sets := u.colour.sets } ∧
      (∀ x, u.refset x =
        { s.refset x with useCount := (s.refset x).useCount + (if set = some x then 1 else 0) }) ∧
      u.notices = { s.notices with
        pending := if e.state = .qualify then s.notices.pending ||| 0b100#18 else s.notices.pending } ∧
      (st ≠ .opened → e.state = st) ∧
      (st = .opened → e.state = .qualify ∨ e.state = .opened) ∧
      (st = .opened → (e.state = .qualify ↔ r.requalify = true ∨ ∃ (c : ChannelId) (p lot : Nat),
        e.pins[c] = some p ∧ s.feedingLot c = some lot ∧ p ≠ lot)) ∧
      e.requalify = (r.requalify && decide (st = .held)) ∧ e.label = r.label ∧ e.size = r.size ∧ e.next = r.next ∧
      e.good = r.good ∧ e.spoiled = r.spoiled ∧ e.unverified = r.unverified ∧
      e.returns = r.returnPlaces.toList.take r.returnLength ∧ e.inFlight = 0 ∧ e.mediaClass = r.mediaClass ∧
      e.channels = r.channels.setWidth 12 ∧
      (∀ c : ChannelId,
        e.pins[c] = if r.channels.getLsbD c.val && r.pinPresent.getLsbD c.val then some r.pins[c] else none) ∧
      e.refset = set ∧ e.tmax = max 10 (min r.tmax 2000) ∧ e.tmean = max 10 (min r.tmean e.tmax) ∧
      e.twarn = min r.twarn e.tmean ∧ e.strict = r.strict ∧ e.trim = r.trim ∧
      e.holdThreshold = max 1 (min r.holdThreshold 7) ∧ e.fails = min r.fails 255 ∧
      e.locked = (r.locked || decide (1 < r.next)) ∧ e.goodCost = r.goodCost ∧ e.spoilCost = r.spoilCost ∧
      e.goodInk = r.goodInk ∧ e.goodMedia = r.goodMedia

/-- R20, R30: what a feeding report of a lot on a channel does to each edition's record, and to the marks of its
started tickets; the entry into QUALIFY may also bring numbers back. A lot change marks a PRINTING ticket that
has had a grant as having seen it, and a qualifying one, PRINTING or TRAVELLING, LOT_MIXED. -/
def Obligations.FeedingReportMovesEachEdition : Prop :=
  (∀ (c : ChannelId) (lot : Nat) (i : EditionId) (e : Edition) (s : State), s.edition i = some e →
    (e.channels.getLsbD c.val = false ∨ e.state = .complete ∨ e.state = .closed ∨ e.pins[c] = some lot →
      (s.feedingReport c lot).edition i = some e) ∧
    (e.channels.getLsbD c.val = true → e.state ≠ .complete → e.state ≠ .closed → e.pins[c] = none →
      (s.feedingReport c lot).edition i = some { e with pins := put e.pins c (some lot) }) ∧
    (∀ p, e.channels.getLsbD c.val = true → e.pins[c] = some p → p ≠ lot →
      (e.state = .qualify → (s.feedingReport c lot).edition i = some e) ∧
      (e.state = .held → (s.feedingReport c lot).edition i = some { e with requalify := true }) ∧
      (e.state = .opened → ∃ e', (s.feedingReport c lot).edition i = some e' ∧
        e' = { e with state := .qualify, requalify := false, returns := e'.returns, inFlight := e'.inFlight } ∧
        (s.feedingReport c lot).notices.pending.getLsbD 2 = true))) ∧
  (∀ (c : ChannelId) (lot : Nat) (i : EditionId) (e : Edition) (x : TicketId) (k : Ticket) (s : State),
    s.edition i = some e → s.ticket x = some k → k.edition = i → x ∉ s.desk.admitted →
    (let granted := k.outstanding = true ∨ 0 < k.swathCount
     let u := s.feedingReport c lot
     ((∃ p, e.channels.getLsbD c.val = true ∧ e.pins[c] = some p ∧ p ≠ lot) →
       (e.state = .opened ∨ e.state = .qualify) → u.ticket x = some { k with
         changeSeen := k.changeSeen || decide (k.state = .printing ∧ granted),
         lotMixed := k.lotMixed ||
           decide (k.qualifying = true ∧ granted ∧ (k.state = .printing ∨ k.state = .travelling)) }) ∧
     ((e.channels.getLsbD c.val = false ∨ e.pins[c] = none ∨ e.pins[c] = some lot ∨ e.state = .held ∨
         e.state = .complete ∨ e.state = .closed) → u.ticket x = some k)))

/-- R21, R31, R34: on an edition's entry into QUALIFY under NONE every ADMITTED ticket of it is cancelled with
cause QUALIFY; under MEASURE all but the oldest are, and the oldest takes the mark and the edition's present
parameters where it still fits. -/
def Obligations.QualifyEntryMarksTheOldestTicket : Prop :=
  ∀ (i : EditionId) (e : Edition) (s : State), s.edition i = some e → s.desk.admitted.Nodup →
    (e.refset = none → ∀ x k, x ∈ s.desk.admitted → s.ticket x = some k → k.edition = i →
      ∃ k', (s.enterQualify i).ticket x = some k' ∧ k'.state = .closedSpoiled ∧ k'.spoilCause = some .qualify ∧
        k'.finalCost = some 0 ∧ x ∉ (s.enterQualify i).desk.admitted) ∧
    (∀ r x k xs, e.refset = some r → (s.desk.admitted.filter fun y => match s.ticket y with
        | some k => k.edition == i
        | none => false) = x :: xs → s.ticket x = some k → k.state = .admitted →
      (∀ y ∈ xs, ∃ k', (s.enterQualify i).ticket y = some k' ∧ k'.state = .closedSpoiled ∧
        k'.spoilCause = some .qualify ∧ y ∉ (s.enterQualify i).desk.admitted) ∧
      (∃ k', (s.enterQualify i).ticket x = some k' ∧
        (k'.state = k.state → k' = { k with
          refset := some r, patches := (s.refset r).targets.length, tmax := e.tmax, tmean := e.tmean, twarn := e.twarn,
          qualifying := true, lp := if k.lp = 0 then 20 else k.lp, l := if k.lp = 0 then k.l + 20 else k.l }) ∧
        (k'.state ≠ k.state → k'.state = .closedSpoiled ∧ k'.spoilCause = some .qualify ∧ k'.finalCost = some 0) ∧
        (∀ ρ, s.roll k.roll = some ρ →
          (ρ.width < (s.refset r).targets.length * 25 + 40 ∨ 30000 < k.l + (if k.lp = 0 then 20 else 0) →
            k'.state = .closedSpoiled) ∧
          ((s.refset r).targets.length * 25 + 40 ≤ ρ.width → k.l + (if k.lp = 0 then 20 else 0) ≤ 30000 →
            s.reservation k.roll + (if k.lp = 0 then 20 else 0) + 750 ≤ ρ.remaining → k'.state = .admitted)))) ∧
    (s.enterQualify i).notices.pending.getLsbD 2 = true

/-- R13 to R17: what an issue, a return, a good close and a spoiled close do to the three counts that R15
balances; and every step keeps R15's three laws, in every state in which they hold with the bounds of the queues
and stop list that they rest on. -/
def Obligations.NumberMovesKeepTheBalance : Prop :=
  (∀ e : Edition,
    (e.returns ≠ [] → e.issued.next = e.next ∧ e.nextNumber :: e.issued.returns = e.returns) ∧
    (e.returns = [] → e.issued.next = e.next + 1 ∧ e.nextNumber = e.next ∧ e.issued.returns = []) ∧
    e.issued.good = e.good ∧ e.issued.inFlight = e.inFlight + 1 ∧ e.issued.locked = true ∧
    (∀ n, 1 ≤ e.inFlight →
      (e.giveBack n).good + (e.giveBack n).inFlight + (e.giveBack n).returns.length =
        e.good + e.inFlight + e.returns.length ∧
      (e.giveBack n).returns.Perm (n :: e.returns) ∧
      (e.returns.Pairwise (· ≤ ·) → (e.giveBack n).returns.Pairwise (· ≤ ·)) ∧
      ∀ cost, (e.spoiledClose n cost).returns = (e.giveBack n).returns ∧
        (e.spoiledClose n cost).inFlight + 1 = e.inFlight ∧ (e.spoiledClose n cost).good = e.good ∧
        (e.spoiledClose n cost).spoiled = min 65535 (e.spoiled + 1) ∧
        (e.spoiledClose n cost).spoilCost = min (2 ^ 48 - 1) (e.spoilCost + cost)) ∧
    (∀ k cost u, 1 ≤ e.inFlight →
      (e.goodClose k cost u).good = e.good + 1 ∧ (e.goodClose k cost u).inFlight + 1 = e.inFlight ∧
      (e.goodClose k cost u).returns = e.returns ∧
      (e.goodClose k cost u).goodCost = min (2 ^ 48 - 1) (e.goodCost + cost) ∧
      (e.goodClose k cost u).goodMedia = min (2 ^ 32 - 1) (e.goodMedia + k.fed) ∧
      (e.goodClose k cost u).unverified = e.unverified + (if u then 1 else 0))) ∧
  (∀ s t : State, s.numberingSound → step s = .next t → t.numberingSound)

/-! ## Tickets -/

/-- R12, R13, R24, R25, R112, R113: an admission that passes every check issues the number and opens the ticket
in the lowest FREE slot, adds its L to the roll's reservation and leaves a slack of 750 at least; the admission
event (R25, step 8) then follows. A refused admission issues no number and changes nothing, and its status is
that of the first check of R24 that fails, check 3 being the edition's answer of R12. -/
def Obligations.AdmissionOpensTheTicket : Prop :=
  (∀ (tag : Nat) (i : EditionId) (e : Edition) (x : TicketId) (r : RollId) (ρ : Roll) (lm li lt n lp : Nat) (s : State),
     s.takesAtOnce (.printAdmit i.val lm li lt) → s.edition i = some e →
     s.run.state ≠ .engineWait → s.run.state ≠ .draining → s.run.state ≠ .halted →
     (e.state = .opened ∨ e.state = .qualify ∧ e.refset ≠ none ∧
       ∀ y k, s.ticket y = some k → k.edition = i → k.qualifying = true → k.state = .closedGood ∨ k.state = .closedSpoiled) →
     (e.returns ≠ [] ∨ e.next ≠ e.size + 1) →
     lm ≤ 500 → 50 ≤ li → li ≤ 29000 → 10 ≤ lt → lt ≤ 500 →
     lp = (if e.refset ≠ none ∨ e.state = .qualify then 20 else 0) → 150 ≤ lm + li + lp + lt → lm + li + lp + lt ≤ 30000 →
     s.ticket x = none → (∀ y, y < x → s.ticket y ≠ none) →
     s.roll r = some ρ → ρ.state = .active → (∀ r' ρ', s.roll r' = some ρ' → ρ'.state = .active → r' = r) →
     ρ.mediaClass = e.mediaClass →
     n = (match e.refset with | some y => (s.refset y).targets.length | none => 0) →
     (lp = 20 → n * 25 + 40 ≤ ρ.width) → s.reservation r + 750 + (lm + li + lp + lt) ≤ ρ.remaining →
     ∃ t u e' k, exec (.printAdmit tag i.val lm li lt) s = .next t ∧
       (u.admissionEvent.settle s.asked).answers t tag .ok
         (.admission x s.desk.serial k.number (lm + li + lp + lt) (decide (e.state = .qualify))) ∧
       s.asked.sameBut [.editions, .desk] u ∧ u.out = [] ∧ (∀ j, j ≠ i → u.edition j = s.edition j) ∧
       u.edition i = some e' ∧
       e' = { e with next := e'.next, returns := e'.returns, inFlight := e.inFlight + 1, locked := true } ∧
       (match e.returns with
         | m :: rest => k.number = m ∧ e'.returns = rest ∧ e'.next = e.next
         | [] => k.number = e.next ∧ e'.returns = [] ∧ e'.next = e.next + 1) ∧
       u.desk = { s.desk with tickets := u.desk.tickets, admitted := s.desk.admitted ++ [x],
                              serial := (s.desk.serial + 1) % 65536 } ∧
       u.reservation r = s.reservation r + (lm + li + lp + lt) ∧ u.reservation r + 750 ≤ ρ.remaining ∧
       (∀ y, y ≠ x → u.ticket y = s.ticket y) ∧ u.ticket x = some k ∧
       k.state = .admitted ∧ k.serial = s.desk.serial ∧ k.edition = i ∧ k.qualifying = decide (e.state = .qualify) ∧
       k.changeSeen = false ∧ k.roll = r ∧ k.lm = lm ∧ k.li = li ∧ k.lp = lp ∧ k.lt = lt ∧ k.l = lm + li + lp + lt ∧
       k.start = none ∧ k.fed = 0 ∧ k.refset = e.refset ∧ k.patches = n ∧ k.tmax = e.tmax ∧ k.tmean = e.tmean ∧
       k.twarn = e.twarn ∧ k.strict = e.strict ∧ k.trim = e.trim ∧ k.swathCount = 0 ∧ k.outstanding = false ∧
       (∀ c : ChannelId, k.ink[c] = 0) ∧ k.acc = 0 ∧ k.fees = 0 ∧ k.lotMixed = false ∧ k.overdraw = false ∧
       k.unverified = false ∧ k.saturated = false ∧ k.countClamped = false ∧ k.verdict = .none ∧ k.deMax = none ∧
       k.deMean = none ∧ k.spoilCause = none ∧ k.finalCost = none ∧ k.pauseTimer = none) ∧
  (∀ (tag slot lm li lt : Nat) (s : State), s.takesAtOnce (.printAdmit slot lm li lt) →
     (63 < slot → ∃ t, exec (.printAdmit tag slot lm li lt) s = .next t ∧ s.asked.answers t tag .badSlot .empty) ∧
     (∀ i : EditionId, i.val = slot →
       ((s.run.state = .engineWait ∨ s.run.state = .draining ∨ s.run.state = .halted) →
         ∃ t, exec (.printAdmit tag slot lm li lt) s = .next t ∧ s.asked.answers t tag .badState .empty) ∧
       (s.run.state ≠ .engineWait → s.run.state ≠ .draining → s.run.state ≠ .halted →
         (s.edition i = none →
           ∃ t, exec (.printAdmit tag slot lm li lt) s = .next t ∧ s.asked.answers t tag .badSlot .empty) ∧
         (∀ e, s.edition i = some e →
           (e.state ≠ .opened → e.state ≠ .qualify →
             ∃ t, exec (.printAdmit tag slot lm li lt) s = .next t ∧ s.asked.answers t tag .badState .empty) ∧
           (e.state = .opened → e.returns = [] → e.next = e.size + 1 →
             ∃ t, exec (.printAdmit tag slot lm li lt) s = .next t ∧ s.asked.answers t tag .noNumber .empty) ∧
           (e.state = .opened → (e.returns ≠ [] ∨ e.next ≠ e.size + 1) →
             (500 < lm ∨ li < 50 ∨ 29000 < li ∨ lt < 10 ∨ 500 < lt) →
             ∃ t, exec (.printAdmit tag slot lm li lt) s = .next t ∧ s.asked.answers t tag .range .empty))))) ∧
  (∀ (tag : Nat) (i : EditionId) (e : Edition) (lm li lt lp l n : Nat) (st : Status) (s : State),
     s.takesAtOnce (.printAdmit i.val lm li lt) → s.run.state ≠ .engineWait → s.run.state ≠ .draining →
     s.run.state ≠ .halted → s.edition i = some e → lp = (if e.refset ≠ none ∨ e.state = .qualify then 20 else 0) →
     l = lm + li + lp + lt → n = (match e.refset with | some y => (s.refset y).targets.length | none => 0) →
     (if e.state ≠ .opened ∧ e.state ≠ .qualify then st = .badState
      else if e.state = .qualify ∧ ∃ y k, s.ticket y = some k ∧ k.edition = i ∧ k.qualifying = true ∧
          k.state ≠ .closedGood ∧ k.state ≠ .closedSpoiled then st = .qualifyBusy
      else if e.state = .qualify ∧ e.refset = none then st = .noRefset
      else if e.returns = [] ∧ e.next = e.size + 1 then st = .noNumber
      else if 500 < lm ∨ li < 50 ∨ 29000 < li ∨ lt < 10 ∨ 500 < lt ∨ l < 150 ∨ 30000 < l then st = .range
      else if ∀ x, s.ticket x ≠ none then st = .noTicket
      else if ∀ r ρ, s.roll r = some ρ → ρ.state ≠ .active then st = .noMedia
      else ∃ r ρ, s.roll r = some ρ ∧ ρ.state = .active ∧
        (∀ r' ρ', s.roll r' = some ρ' → ρ'.state = .active → r' = r) ∧
        (if ρ.mediaClass ≠ e.mediaClass then st = .wrongMedia
         else if lp = 20 ∧ ρ.width < n * 25 + 40 then st = .tooNarrow
         else ρ.remaining < s.reservation r + 750 + l ∧ st = .noMedia)) →
     ∃ t, exec (.printAdmit tag i.val lm li lt) s = .next t ∧ s.asked.answers t tag st .empty)

/-- R25, step 8, with R122, R173, R174 and R177: the admission event ends the eject; the run leaves IDLE for
RUNNING and DOZE or CAPPED for WAKING, and keeps any other state. -/
def Obligations.AdmissionEventMovesTheRun : Prop :=
  ∀ s : State, s.admissionEvent.media.eject = false ∧ s.sameBut [.desk, .media, .run] s.admissionEvent ∧
    (s.run.state = .idle → s.admissionEvent.run.state = .running ∧ s.admissionEvent.run.dozeTimer = none ∧
      s.admissionEvent.run.capTimer = none) ∧
    ((s.run.state = .doze ∨ s.run.state = .capped) → s.admissionEvent.run.state = .waking ∧
      s.admissionEvent.run.dozeTimer = none ∧ s.admissionEvent.run.capTimer = none ∧ s.admissionEvent.run.wanted = none ∧
      s.admissionEvent.run.wake = some
        (if s.run.state = .capped ∧ s.run.wanted ≠ some .cap ∧ s.run.slot ≠ some { op := .cap, sent := false }
         then (.heavy, .uncap) else (.light, .purge)) ∧
      s.admissionEvent.desk = s.desk) ∧
    (s.run.state ≠ .idle → s.run.state ≠ .doze → s.run.state ≠ .capped →
      s.admissionEvent.run.state = s.run.state)

/-- R26, R27, R114: the head of the admitted queue starts where the run is RUNNING, the path has room and all
of it is fed: it becomes PRINTING at the present P, E becomes S + L, its stop actions are placed with a lead
trim over the gap where S exceeds E, and the engine is told. -/
def Obligations.StartPlacesTheHeadOfTheQueue : Prop :=
  ∀ (x : TicketId) (xs : List TicketId) (k : Ticket) (s : State), s.desk.admitted = x :: xs → x ∉ xs →
    s.ticket x = some k →
    (s.run.state = .running → s.desk.path.length < 6 →
      (∀ y k', y ∈ s.desk.path → s.ticket y = some k' → k'.fed = k'.l) →
      (s.startTest).desk.admitted = xs ∧ (s.startTest).desk.path = s.desk.path ++ [x] ∧
      (s.startTest).ticket x = some
        { k with state := .printing, start := some s.media.position, oldEnd := s.media.pathEnd } ∧
      (∀ y, y ≠ x → (s.startTest).ticket y = s.ticket y) ∧
      (s.startTest).media.pathEnd = (s.media.position : Int) + k.l ∧
      (s.startTest).media.position = s.media.position ∧
      (s.startTest).media.placed.Perm (s.media.placed ++
        (if s.media.pathEnd < (s.media.position : Int) then
          [(s.media.position + 750,
            { kind := .leadTrim ((s.media.position : Int) - s.media.pathEnd).toNat, ticket := x, handed := false })] else []) ++
        (if k.lp = 20 then
          [(s.media.position + k.lm + k.li + 10 + 450, { kind := .patchRead, ticket := x, handed := false })] else []) ++
        (if k.trim then [(s.media.position + k.lm + k.li + 750, { kind := .separate, ticket := x, handed := false })] else []) ++
        [(s.media.position + k.l + 750, { kind := .trailCut, ticket := x, handed := false })]) ∧
      (s.startTest).out = s.out ++ [.engine (.ticketStart x k.lm k.li k.lp k.lt k.patches)] ∧
      s.sameBut [.desk, .media] s.startTest) ∧
    ((s.run.state ≠ .running ∨ 6 ≤ s.desk.path.length ∨
        ∃ y k', y ∈ s.desk.path ∧ s.ticket y = some k' ∧ k'.fed ≠ k'.l) → s.startTest = s)

/-- R35, R37, R42, R119, R132: TICKET_CANCEL frees an ADMITTED ticket at no cost, makes a PRINTING one
CANCELLING, as its pause timer's expiry does, and is refused BAD_STATE in the other states; a closed ticket
whose last swath has ended is collected with its statement and its slot is FREE: BUSY while a late report may
charge it, BAD_STATE while it is not closed or FREE; an id above 7 is BAD_SLOT. An expiry that finds the timer
stopped has no effect; that one on a ticket that is not PRINTING has none either, as the timer of a ticket that
became TRAVELLING stops, is the model's choice (log entry 43), and so is that an expiry under an outstanding swath
leaves the owed feed to its SWATH_DONE (log entry 50). -/
def Obligations.TicketsAreCancelledAndCollected : Prop :=
  (∀ (tag id : Nat) (s : State), 7 < id →
     (s.takesAtOnce (.ticketCancel id) →
       ∃ t, exec (.ticketCancel tag id) s = .next t ∧ s.asked.answers t tag .badSlot .empty) ∧
     (s.takesAtOnce (.ticketCollect id) →
       ∃ t, exec (.ticketCollect tag id) s = .next t ∧ s.asked.answers t tag .badSlot .empty)) ∧
  (∀ (tag : Nat) (x : TicketId) (s : State), s.takesAtOnce (.ticketCollect x.val) → s.ticket x = none →
     ∃ t, exec (.ticketCollect tag x.val) s = .next t ∧ s.asked.answers t tag .badState .empty) ∧
  (∀ (tag : Nat) (x : TicketId) (s : State), s.takesAtOnce (.ticketCancel x.val) →
     (∀ k e, s.ticket x = some k → k.state = .admitted → s.edition k.edition = some e →
       ∃ t u e', exec (.ticketCancel tag x.val) s = .next t ∧ (u.settle s.asked).answers t tag .ok .empty ∧
         s.asked.sameBut [.editions, .desk, .run] u ∧ u.out = [] ∧ s.asked.mayGoIdle u ∧ u.ticket x = none ∧
         (∀ y, y ≠ x → u.ticket y = s.ticket y) ∧
         u.desk = { s.desk with tickets := u.desk.tickets, admitted := s.desk.admitted.erase x } ∧
         u.edition k.edition = some e' ∧ (∀ j, j ≠ k.edition → u.edition j = s.edition j) ∧
         e' = { e with returns := e'.returns, inFlight := e.inFlight - 1 } ∧ e'.returns.Perm (k.number :: e.returns) ∧
         (e.returns.Pairwise (· ≤ ·) → e'.returns.Pairwise (· ≤ ·))) ∧
     (((∃ k, s.ticket x = some k ∧ k.state ≠ .admitted ∧ k.state ≠ .printing) ∨ s.ticket x = none) →
       ∃ t, exec (.ticketCancel tag x.val) s = .next t ∧ s.asked.answers t tag .badState .empty)) ∧
  (∀ (x : TicketId) (k : Ticket) (s : State), s.ticket x = some k →
     (k.state = .printing → ∀ tag, s.takesAtOnce (.ticketCancel x.val) →
       ∃ t u : State, exec (.ticketCancel tag x.val) s = .next t ∧ (u.settle s.asked).answers t tag .ok .empty ∧
         s.asked.becameCancelling u x k .cancelled) ∧
     (k.state = .printing → k.pauseTimer ≠ none →
       ∃ u : State, exec (.pauseExpiry x) s = .next (u.settle s.begin) ∧ s.begin.becameCancelling u x k .pause) ∧
     ((k.state ≠ .printing ∨ k.pauseTimer = none) → exec (.pauseExpiry x) s = .next s.begin)) ∧
  (∀ (tag : Nat) (x : TicketId) (k : Ticket) (s : State), s.takesAtOnce (.ticketCollect x.val) → s.ticket x = some k →
     ((k.state = .closedGood ∨ k.state = .closedSpoiled) → k.outstanding = false →
       ∃ t u : State, exec (.ticketCollect tag x.val) s = .next t ∧ u.answers t tag .ok (.statement x (some k)) ∧
         s.asked.sameBut [.desk] u ∧ u.out = [] ∧ u.ticket x = none ∧ (∀ y, y ≠ x → u.ticket y = s.ticket y) ∧
         u.desk = { s.desk with tickets := u.desk.tickets }) ∧
     ((k.state = .closedGood ∨ k.state = .closedSpoiled) → k.outstanding = true →
       ∃ t, exec (.ticketCollect tag x.val) s = .next t ∧ s.asked.answers t tag .busy .empty) ∧
     (k.state ≠ .closedGood → k.state ≠ .closedSpoiled →
       ∃ t, exec (.ticketCollect tag x.val) s = .next t ∧ s.asked.answers t tag .badState .empty))

/-- R16, R17, R18, R19, R38, R57: the close of a ticket at its trail cut: its final cost is the accumulator
rounded half up with its fees; good or spoiled, and the edition's state and fails, by the table of R18. -/
def Obligations.TrailCutCloseFollowsTheTable : Prop :=
  ∀ (x : TicketId) (k : Ticket) (e : Edition) (cost : Nat) (s : State), s.ticket x = some k → x ∉ s.desk.admitted →
    s.edition k.edition = some e →
    cost = k.acc / 1000000 + (if 500000 ≤ k.acc % 1000000 then 1 else 0) + k.fees →
    ∃ k' e', (s.closeAtTrail x).ticket x = some k' ∧ (s.closeAtTrail x).edition k.edition = some e' ∧
      k' = { k with state := k'.state, unverified := k'.unverified, spoilCause := k'.spoilCause,
                    finalCost := some cost, qualifying := false, pauseTimer := none } ∧
      (s.closeAtTrail x).notices.pending.getLsbD 0 = true ∧
      (k.state = .cancelling → k'.state = .closedSpoiled ∧ k'.spoilCause = some (k.spoilCause.getD .cancelled) ∧
        e'.state = e.state ∧ e'.fails = e.fails) ∧
      (k.state = .travelling →
        let q := k.qualifying = true ∧ e.state = .qualify
        (k.verdict = .none → k'.state = .closedGood ∧ k'.unverified = false ∧ e'.fails = e.fails) ∧
        (k.verdict = .pass ∨ k.verdict = .warn → k'.state = .closedGood ∧ k'.unverified = false ∧ e'.fails = 0) ∧
        (k.verdict = .unverified → (¬ q ∧ k.strict = false) →
          k'.state = .closedGood ∧ k'.unverified = true ∧ e'.fails = e.fails) ∧
        (k.verdict = .unverified → (q ∨ k.strict = true) →
          k'.state = .closedSpoiled ∧ k'.spoilCause = some .unverified ∧ e'.fails = e.fails ∧ e'.state = e.state) ∧
        (k.verdict = .fail → k'.state = .closedSpoiled ∧ k'.spoilCause = some .colour ∧
          e'.fails = min 255 (e.fails + 1) ∧
          (if q ∨ ((e.state = .opened ∨ e.state = .qualify) ∧ e.holdThreshold ≤ min 255 (e.fails + 1)) then
            e'.state = .held ∧ e'.requalify = (e.requalify || decide (e.state = .qualify)) ∧
            (s.closeAtTrail x).notices.pending.getLsbD 1 = true
           else e'.state = e.state)) ∧
        (k'.state = .closedGood → e'.good = e.good + 1 ∧ e'.inFlight = e.inFlight - 1 ∧ e'.returns = e.returns ∧
          (if e.good + 1 = e.size ∧ e.state ≠ .complete ∧ e.state ≠ .closed then e'.state = .complete
           else if q ∧ (k.verdict = .pass ∨ k.verdict = .warn) ∧ k.lotMixed = false then
             e'.state = .opened ∧ ∀ c : ChannelId, e.channels.getLsbD c.val = true →
               e'.pins[c] = (s.feedingLot c).or e.pins[c]
           else e'.state = e.state)))

/-! ## Costs and ink -/

/-- R47 to R52, R70, R71, R74 to R77, R80: one channel of a swath report. The drops and the residue become whole
nanolitres and a residue below 10,000 tp, with nothing lost; the debit is taken from the feeding tank and,
beyond its fill, as overdraw; the ticket is charged both parts. A debit that lowers a feeding tank raises the
reserve notice at the crossing of the floor, starts a switchover at the switch level where the other slot is
STANDBY, and else, at fill 0, leaves a dry channel, its tank DEPLETED and CHANNEL_STARVED raised. -/
def Obligations.SwathDropsBecomeInkAndCost : Prop :=
  (∀ (x : TicketId) (k : Ticket) (c : ChannelId) (n : DropCounts) (v d tankPart beyond price : Nat) (s : State),
     s.ticket x = some k → s.costing.residues[c] < 10000 →
     v = min n.small 268435455 * s.costing.volumes[c].small + min n.medium 268435455 * s.costing.volumes[c].medium +
       min n.large 268435455 * s.costing.volumes[c].large →
     (match (s.channel c).feed with
       | .fed y => ∃ st r, s.tank (tankOf c y) = .held st r ∧ tankPart = min d r.fill ∧ price = r.price
       | _ => tankPart = 0 ∧ price = 0) →
     tankPart + beyond = d →
     (10000 * d ≤ s.costing.residues[c] + v ∧ s.costing.residues[c] + v < 10000 * d + 10000) →
     ((n.small = 0 ∧ n.medium = 0 ∧ n.large = 0) → s.meterChannel x n c = s) ∧
     (¬ (n.small = 0 ∧ n.medium = 0 ∧ n.large = 0) →
       (∀ b, (s.meterChannel x n c).costing.residues[b] =
         if b = c then s.costing.residues[c] + v - 10000 * d else s.costing.residues[b]) ∧
       (s.meterChannel x n c).ticket x = some { k with
         countClamped := k.countClamped ||
           decide (268435455 < n.small ∨ 268435455 < n.medium ∨ 268435455 < n.large),
         ink := if d = 0 then k.ink else put k.ink c (min (2 ^ 32 - 1) (k.ink[c] + d)),
         overdraw := k.overdraw || decide (0 < beyond),
         acc := if d = 0 then k.acc else min (2 ^ 64 - 1) (k.acc + (tankPart * price + beyond * (s.channel c).lastPrice)),
         saturated := k.saturated ||
           decide (0 < d ∧ 2 ^ 64 - 1 < k.acc + (tankPart * price + beyond * (s.channel c).lastPrice)) } ∧
       (∀ y, y ≠ x → (s.meterChannel x n c).ticket y = s.ticket y) ∧
       ((s.meterChannel x n c).channel c).overdraw =
         (if d = 0 then (s.channel c).overdraw else min (2 ^ 48 - 1) ((s.channel c).overdraw + beyond)) ∧
       (∀ y, (s.channel c).feed = .fed y → ∀ st r, s.tank (tankOf c y) = .held st r →
         ∃ st' r', (s.meterChannel x n c).tank (tankOf c y) = .held st' r' ∧ r'.fill = r.fill - tankPart ∧
           r' = { r with fill := r'.fill, writeMark := r'.writeMark }))) ∧
  (∀ (c : ChannelId) (y : Side) (r : TankRecord) (d : Nat) (s : State), (s.channel c).feed = .fed y →
     s.tank (tankOf c y) = .held .feeding r →
     (let u := (s.debit c d none).1
      let left := r.fill - min d r.fill
      let other := ∃ r', s.tank (tankOf c y.other) = .held .standby r' ∧ r'.releasePending = false
      (u.notices.pending.getLsbD 5 = (s.notices.pending.getLsbD 5 ||
        decide ((s.channel c).floor * 1000000 < r.fill ∧ left ≤ (s.channel c).floor * 1000000))) ∧
      ((left ≤ (s.channel c).level * 1000000 ∧ other) →
        (u.channel c).feed = .switching y.other 1500 ∧ (u.channel c).valve = y.other ∧
        ∃ r', u.tank (tankOf c y) = .held .feeding r' ∧ r'.fill = left) ∧
      (¬ (left ≤ (s.channel c).level * 1000000 ∧ other) → left = 0 →
        (u.channel c).feed = .starved ∧ u.notices.pending.getLsbD 6 = true ∧
        ∃ r', u.tank (tankOf c y) = .held .depleted r' ∧ r'.fill = 0) ∧
      (¬ (left ≤ (s.channel c).level * 1000000 ∧ other) → 0 < left →
        (u.channel c).feed = .fed y ∧ u.notices.pending.getLsbD 6 = s.notices.pending.getLsbD 6 ∧
        ∃ r', u.tank (tankOf c y) = .held .feeding r' ∧ r'.fill = left) ∧
      (left + 10000000 ≤ r.writeMark → u.tags.waiting[tankOf c y] ≠ none) ∧
      (∀ b, b ≠ c → u.channel b = s.channel b) ∧
      (∀ z : TankId, z ≠ tankOf c y → u.tank z = s.tank z) ∧
      s.sameBut [.supply, .tags, .notices] u))

/-- R60, R61, R74, R75, R136: an accepted PURGE_DONE ends the operation and empties the head-care slot, and
leaves every residue. Each value above 0, at most 2,000,000 nL, is a debit of its channel, which takes what the
feeding tank holds and counts the rest as overdraw; the debits of all the channels are charged to the house
account, the tank parts at the tanks' prices and the rest at the last prices. -/
def Obligations.PurgeReportIsChargedToTheHouse : Prop :=
  ∀ (set : ChannelSet) (w v : Vector Nat 12) (ab : Bool) (s : State),
    s.engine.op = some { kind := .purge set w, aborted := ab } →
    ∃ u : State, exec (.purgeDone v) s = .next (u.settle s.begin) ∧ u.engine = { s.engine with op := none, swathTimer := none } ∧
      u.costing.residues = s.costing.residues ∧ u.costing.volumes = s.costing.volumes ∧
      ((∀ b : ChannelId, v[b] = 0) → u.costing = s.costing ∧ u.supply = s.supply) ∧
      (let charge := ((List.finRange 12).map fun c => s.chargeOf c (min 2000000 v[c])).sum
       (∃ b : ChannelId, 0 < v[b]) →
         u.costing.house = min (2 ^ 64 - 1) (s.costing.house + charge) ∧
         u.costing.houseSaturated = (s.costing.houseSaturated || decide (2 ^ 64 - 1 < s.costing.house + charge))) ∧
      (∀ c : ChannelId, 0 < v[c] →
        (∀ y st r, (s.channel c).feed = .fed y → s.tank (tankOf c y) = .held st r →
          (u.channel c).overdraw = min (2 ^ 48 - 1) ((s.channel c).overdraw + (min 2000000 v[c] - r.fill)) ∧
          ∃ st' r', u.tank (tankOf c y) = .held st' r' ∧
            r' = { r with fill := r.fill - min 2000000 v[c], writeMark := r'.writeMark }) ∧
        ((∀ y, (s.channel c).feed ≠ .fed y) →
          (u.channel c).overdraw = min (2 ^ 48 - 1) ((s.channel c).overdraw + min 2000000 v[c]))) ∧
      (∀ c : ChannelId, v[c] = 0 → u.channel c = s.channel c) ∧
      (∀ c y, v[c] = 0 ∨ (s.channel c).feed ≠ .fed y → u.tank (tankOf c y) = s.tank (tankOf c y)) ∧
      (∀ k, s.run.slot = some { op := .purge k, sent := true } → s.run.state ≠ .waking ∨ k ≠ .wake → u.run.slot = none)

/-! ## Tanks -/

/-- R67, R73, R78, R99: a presence rise on an EMPTY slot makes it READING and queues a READ; a fall on a slot
that is not EMPTY discards its record, its image copy and its pending operation, aborts a transaction on it
into GUARD, and raises TANK_REMOVED; and what the removal of a feeding slot, and of a switch target, does to
the channel. -/
def Obligations.PresenceSeatsAndRemovesTanks : Prop :=
  (∀ (x : TankId) (s : State),
     (s.tank x = .empty → ∃ u : State, exec (.presenceRise x) s = .next (u.settle s.begin) ∧
       s.sameBut [.supply, .tags, .run] u ∧ u.out = [] ∧ u.supply.channels = s.supply.channels ∧
       u.supply.presence = put s.supply.presence x true ∧ u.tank x = .reading none ∧
       (∀ y, y ≠ x → u.tank y = s.tank y) ∧
       u.tags = { s.tags with waiting := put s.tags.waiting x (some .read) } ∧ u.run = (s.reload .byTank).run) ∧
     (s.tank x ≠ .empty → ∃ u : State, exec (.presenceRise x) s = .next (u.settle s.begin) ∧
       s.sameBut [.supply] u ∧ u.out = [] ∧ u.supply = { s.supply with presence := put s.supply.presence x true }) ∧
     (s.tank x = .empty → ∃ u : State, exec (.presenceFall x) s = .next (u.settle s.begin) ∧
       s.sameBut [.supply] u ∧ u.out = [] ∧ u.supply = { s.supply with presence := put s.supply.presence x false }) ∧
     (s.tank x ≠ .empty → (∀ y, (s.channel (channelOf x)).feed = .fed y → tankOf (channelOf x) y ≠ x) →
       (∀ y n, (s.channel (channelOf x)).feed = .switching y n → tankOf (channelOf x) y ≠ x) →
       ∃ u : State, exec (.presenceFall x) s = .next (u.settle s.begin) ∧ s.sameBut [.supply, .tags, .notices] u ∧ u.out = [] ∧
         u.supply.channels = s.supply.channels ∧ u.supply.presence = put s.supply.presence x false ∧
         u.tank x = .empty ∧ (∀ y, y ≠ x → u.tank y = s.tank y) ∧
         u.notices = { s.notices with pending := s.notices.pending ||| 1#18 <<< 8 } ∧
         u.tags = { s.tags with
           waiting := put s.tags.waiting x none, images := put s.tags.images x none,
           phase := match s.tags.phase with
             | .request tx => if tx.slot = x then .guard 5 else .request tx
             | .turnaround tx n => if tx.slot = x then .guard 5 else .turnaround tx n
             | p => p })) ∧
  (∀ (c : ChannelId) (y : Side) (st : HeldState) (r : TankRecord) (s : State), s.tank (tankOf c y) = .held st r →
     ((s.channel c).feed = .fed y →
       ∃ u : State, exec (.presenceFall (tankOf c y)) s = .next (u.settle s.begin) ∧ u.tank (tankOf c y) = .empty ∧
         u.notices.pending.getLsbD 8 = true ∧ (∀ b, b ≠ c → u.channel b = s.channel b) ∧
         ((∃ r', s.tank (tankOf c y.other) = .held .standby r' ∧ r'.releasePending = false) →
           (u.channel c).feed = .switching y.other 1500 ∧ (u.channel c).valve = y.other ∧
           u.notices.pending.getLsbD 6 = s.notices.pending.getLsbD 6) ∧
         ((∀ r', s.tank (tankOf c y.other) = .held .standby r' → r'.releasePending = true) →
           (u.channel c).feed = .starved ∧ u.notices.pending.getLsbD 6 = true)) ∧
     (∀ n, (s.channel c).feed = .switching y n →
       ∃ u : State, exec (.presenceFall (tankOf c y)) s = .next (u.settle s.begin) ∧ u.tank (tankOf c y) = .empty ∧
         u.notices.pending.getLsbD 8 = true ∧ u.notices.pending.getLsbD 6 = true ∧
         (∀ b, b ≠ c → u.channel b = s.channel b) ∧
         (∀ r', s.tank (tankOf c y.other) = .held .feeding r' → (u.channel c).feed = .starved ∧
           (u.channel c).valve = (s.channel c).valve ∧
           ∃ r'', u.tank (tankOf c y.other) = .held (if r'.fill = 0 then .depleted else .spent) r'' ∧
             r'' = { r' with writeMark := r''.writeMark })))

/-- R68, R69, R83: the tests of an image in their order, and what is stored: the fill as read, no more than
the capacity and than a remembered fill. The last-written fill, the write mark and the clear flags of a slot
rejected KIND or EXPIRED are the model's choice (log entry 18). -/
def Obligations.ImageIsValidatedInOrder : Prop :=
  ∀ (x : TankId) (b : List Byte) (m : Option Nat) (f : Nat) (s : State), s.tank x = .reading m →
    f = min (min (field b 6 2 * 1000000) (field b 8 4)) (m.getD (field b 6 2 * 1000000)) →
    (let u := s.takeImage x b
     let crc := field b 18 2 = (crc16 (b.take 18)).toNat
     let form := field b 0 1 = 0x5A ∧ 150 ≤ field b 6 2 ∧ field b 6 2 ≤ 1000
     let kind := field b 1 1 = (channelOf x).val + 1
     let late := s.date ≠ 0 ∧ field b 15 2 ≠ 0 ∧ field b 15 2 < s.date
     let rec' : TankRecord := { kind := field b 1 1, lot := field b 2 4, capacity := field b 6 2, fill := f,
                                price := min 10000000 (field b 12 3), expiry := field b 15 2, lastWritten := f,
                                writeMark := f, stale := false, expired := false, releasePending := false }
     (¬ crc → u.tank x = .rejectedBare .check m ∧ u.notices.pending.getLsbD 7 = true) ∧
     (crc → ¬ form → u.tank x = .rejectedBare .format m ∧ u.notices.pending.getLsbD 7 = true) ∧
     (crc → form → ¬ kind → u.tank x = .held .rejectedKind rec' ∧ u.notices.pending.getLsbD 7 = true) ∧
     (crc → form → kind → late → u.tank x = .held .rejectedExpired rec' ∧ u.notices.pending.getLsbD 7 = true) ∧
     (crc → form → kind → ¬ late → f = 0 → u = s.setTank x (.held .depleted rec')) ∧
     (crc → form → kind → ¬ late → 0 < f → u.tank x = .held .standby rec' ∧ s.sameBut [.supply] u ∧
       ((s.channel (channelOf x)).feed = .starved → ∃ y, (u.channel (channelOf x)).feed = .switching y 1500)) ∧
     (∀ y, y ≠ x → u.tank y = s.tank y))

/-- R72, R87: the switch timer's expiry puts the incoming slot into service, retires the outgoing one, takes
the price and hands the feeding report; on a channel that is not SWITCHING it has no effect. The new fill is
above the switch level. -/
def Obligations.SwitchoverCompletes : Prop :=
  ∀ (c : ChannelId) (s : State),
    ((∀ y n, (s.channel c).feed ≠ .switching y n) → exec (.switchTimerExpiry c) s = .next s.begin) ∧
    (∀ y n r, (s.channel c).feed = .switching y n → s.tank (tankOf c y) = .held .standby r →
      (s.channel c).level * 1000000 < r.fill →
      ∃ u : State, exec (.switchTimerExpiry c) s = .next (u.settle s.begin) ∧ u.tank (tankOf c y) = .held .feeding r ∧
        u.channel c = { s.channel c with feed := .fed y, lastPrice := r.price } ∧
        (∀ b, b ≠ c → u.channel b = s.channel b) ∧
        (∀ r', s.tank (tankOf c y.other) = .held .feeding r' →
          ∃ r'', u.tank (tankOf c y.other) = .held (if r'.fill = 0 then .depleted else .spent) r'' ∧
            r'' = { r' with writeMark := r''.writeMark }) ∧
        ((∀ r', s.tank (tankOf c y.other) ≠ .held .feeding r') → u.tank (tankOf c y.other) = s.tank (tankOf c y.other)) ∧
        (r.fill ≤ (s.channel c).floor * 1000000 → u.notices.pending.getLsbD 5 = true) ∧
        (∀ i e p, s.edition i = some e → e.state = .opened → e.channels.getLsbD c.val = true → e.pins[c] = some p →
          p ≠ r.lot → ∃ e', u.edition i = some e' ∧ e'.state = .qualify))

/-- R82, R83: a release queues the write-back and waits for its end, and takes the tank out of service where
it feeds; a re-read remembers the recorded fill and reads again; each with its refusals: BAD_SLOT above 23, BAD_STATE
by the slot's state or its pending release, BUSY for the target and the outgoing slot of a switchover, and IN_USE
for a feeding slot while a ticket is PRINTING. That a slot which is neither the target nor still FEEDING is released
in a switchover is the model's reading (log entry 55). -/
def Obligations.TanksAreReleasedAndReread : Prop :=
  (∀ (tag slot : Nat) (s : State), 23 < slot →
    (s.takesAtOnce (.tankRelease slot) →
      ∃ t, exec (.tankRelease tag slot) s = .next t ∧ s.asked.answers t tag .badSlot .empty) ∧
    (s.takesAtOnce (.tankReread slot) →
      ∃ t, exec (.tankReread tag slot) s = .next t ∧ s.asked.answers t tag .badSlot .empty)) ∧
  (∀ (tag : Nat) (x : TankId) (s : State),
    (s.tank x = .empty ∨ (∃ m, s.tank x = .reading m) →
      (s.takesAtOnce (.tankRelease x.val) →
        ∃ t, exec (.tankRelease tag x.val) s = .next t ∧ s.asked.answers t tag .badState .empty) ∧
      (s.takesAtOnce (.tankReread x.val) →
        ∃ t, exec (.tankReread tag x.val) s = .next t ∧ s.asked.answers t tag .badState .empty)) ∧
    (∀ reason m, s.tank x = .rejectedBare reason m → s.takesAtOnce (.tankRelease x.val) →
      ∃ t, exec (.tankRelease tag x.val) s = .next t ∧ s.asked.answers t tag .badState .empty) ∧
    (∀ st r y n, s.tank x = .held st r → (st = .standby ∨ st = .feeding ∨ st = .spent ∨ st = .depleted) →
      r.releasePending = false → (s.channel (channelOf x)).feed = .switching y n →
      (tankOf (channelOf x) y = x ∨ st = .feeding) → s.takesAtOnce (.tankRelease x.val) →
      ∃ t, exec (.tankRelease tag x.val) s = .next t ∧ s.asked.answers t tag .busy .empty)) ∧
  ∀ (tag : Nat) (x : TankId) (s : State),
    (s.takesAtOnce (.tankRelease x.val) → ∀ st r, s.tank x = .held st r →
      (st = .rejectedKind ∨ st = .rejectedExpired ∨ st = .released ∨ r.releasePending = true →
        ∃ t, exec (.tankRelease tag x.val) s = .next t ∧ s.asked.answers t tag .badState .empty) ∧
      (st = .standby ∨ st = .spent ∨ st = .depleted → r.releasePending = false →
        (∀ y, (s.channel (channelOf x)).feed = .fed y → tankOf (channelOf x) y ≠ x) →
        (∀ y n, (s.channel (channelOf x)).feed = .switching y n → tankOf (channelOf x) y ≠ x) →
        ∃ t u : State, exec (.tankRelease tag x.val) s = .next t ∧ (u.settle s.asked).answers t tag .ok .empty ∧
          s.asked.sameBut [.supply, .tags] u ∧ u.out = [] ∧ u.supply.channels = s.supply.channels ∧
          u.tank x = .held st { r with writeMark := r.fill, releasePending := true } ∧
          (∀ y, y ≠ x → u.tank y = s.tank y) ∧
          u.tags = { s.tags with
            waiting := put s.tags.waiting x (some (if s.tags.waiting[x] = some .read then .read else .write r.fill)) }) ∧
      (∀ y, st = .feeding → r.releasePending = false → (s.channel (channelOf x)).feed = .fed y →
        tankOf (channelOf x) y = x →
        ((∃ z k, s.ticket z = some k ∧ k.state = .printing) →
          ∃ t, exec (.tankRelease tag x.val) s = .next t ∧ s.asked.answers t tag .inUse .empty) ∧
        ((∀ z k, s.ticket z = some k → k.state ≠ .printing) →
          ∃ t u : State, exec (.tankRelease tag x.val) s = .next t ∧ (u.settle s.asked).answers t tag .ok .empty ∧
            u.tank x = .held (if r.fill = 0 then .depleted else .spent)
              { r with writeMark := r.fill, releasePending := true } ∧
            (∀ z, (u.channel (channelOf x)).feed ≠ .fed z)))) ∧
    (s.takesAtOnce (.tankReread x.val) →
      (∀ reason m, s.tank x = .rejectedBare reason m →
        ∃ t u : State, exec (.tankReread tag x.val) s = .next t ∧ (u.settle s.asked).answers t tag .ok .empty ∧
          s.asked.sameBut [.supply, .tags] u ∧ u.out = [] ∧ u.supply.channels = s.supply.channels ∧
          u.tank x = .reading m ∧ (∀ y, y ≠ x → u.tank y = s.tank y) ∧
          u.tags = { s.tags with waiting := put s.tags.waiting x (some .read) }) ∧
      (∀ st r, s.tank x = .held st r → (st = .rejectedKind ∨ st = .rejectedExpired ∨ st = .released) →
        ∃ t u : State, exec (.tankReread tag x.val) s = .next t ∧ (u.settle s.asked).answers t tag .ok .empty ∧
          s.asked.sameBut [.supply, .tags] u ∧ u.out = [] ∧ u.supply.channels = s.supply.channels ∧
          u.tank x = .reading (some r.fill) ∧ (∀ y, y ≠ x → u.tank y = s.tank y) ∧
          u.tags = { s.tags with waiting := put s.tags.waiting x (some .read) }) ∧
      (∀ st r, s.tank x = .held st r → (st = .standby ∨ st = .feeding ∨ st = .spent ∨ st = .depleted) →
        ∃ t, exec (.tankReread tag x.val) s = .next t ∧ s.asked.answers t tag .badState .empty))

/-- R85, R76, R70: an accepted CHANNEL_SET replaces both levels, raises CHANNEL_RESERVE where the floor
crosses the feeding fill, and makes the switchover test; its refusals: BAD_SLOT above 11, RANGE of the levels. -/
def Obligations.ChannelSetReplacesTheLevels : Prop :=
  (∀ (tag n floor level : Nat) (s : State), s.takesAtOnce (.channelSet n floor level) → 11 < n →
    ∃ t, exec (.channelSet tag n floor level) s = .next t ∧ s.asked.answers t tag .badSlot .empty) ∧
  ∀ (tag : Nat) (c : ChannelId) (floor level : Nat) (s : State), s.takesAtOnce (.channelSet c.val floor level) →
    (floor < 1 ∨ 100 < floor ∨ floor < level →
      ∃ t, exec (.channelSet tag c.val floor level) s = .next t ∧ s.asked.answers t tag .range .empty) ∧
    (1 ≤ floor → floor ≤ 100 → level ≤ floor →
      ∃ t u : State, exec (.channelSet tag c.val floor level) s = .next t ∧ (u.settle s.asked).answers t tag .ok .empty ∧
        s.asked.sameBut [.supply, .notices] u ∧ u.out = [] ∧ u.supply.tanks = s.supply.tanks ∧
        u.supply.presence = s.supply.presence ∧ (∀ b, b ≠ c → u.channel b = s.channel b) ∧
        u.channel c = { s.channel c with floor := floor, level := level, feed := (u.channel c).feed, valve := (u.channel c).valve } ∧
        (∀ y st r, (s.channel c).feed = .fed y → s.tank (tankOf c y) = .held st r →
          u.notices = { s.notices with pending :=
            if (s.channel c).floor * 1000000 < r.fill ∧ r.fill ≤ floor * 1000000 then s.notices.pending ||| 1#18 <<< 5
            else s.notices.pending } ∧
          (r.fill ≤ level * 1000000 →
            (∃ r', s.tank (tankOf c y.other) = .held .standby r' ∧ r'.releasePending = false) →
            (u.channel c).feed = .switching y.other 1500 ∧ (u.channel c).valve = y.other) ∧
          (level * 1000000 < r.fill ∨ (∀ r', s.tank (tankOf c y.other) = .held .standby r' → r'.releasePending = true) →
            (u.channel c).feed = .fed y ∧ (u.channel c).valve = (s.channel c).valve)))

/-- R84, R195: DATE_SET stores the day and reports both; STANDBY tanks past their expiry are rejected, FEEDING
ones flagged, and a day of 0 changes no slot; no channel is SWITCHING in this clause. R73: where the rejected
slot is the switch target and the other slot is no candidate once the day is treated, the switchover is
abandoned: the channel is STARVED, the valve stays, and the outgoing slot leaves FEEDING by its fill, its flag
set if it is past its expiry too. That every slot is treated before the switchover is abandoned is the model's
choice (log entry 19). -/
def Obligations.DateSetTreatsExpiredTanks : Prop :=
  (∀ (tag day : Nat) (s : State), s.takesAtOnce (.dateSet day) → (∀ c y n, (s.channel c).feed ≠ .switching y n) →
    ∃ t u : State, exec (.dateSet tag day) s = .next t ∧ (u.settle s.asked).answers t tag .ok (.dates s.date day) ∧
      s.asked.sameBut [.supply, .notices, .date] u ∧ u.out = [] ∧ u.date = day ∧
      u.supply.channels = s.supply.channels ∧ u.supply.presence = s.supply.presence ∧
      (day = 0 → u.supply.tanks = s.supply.tanks ∧ u.notices = s.notices) ∧
      (∀ x st r, s.tank x = .held st r → u.tank x =
        if day ≠ 0 ∧ r.expiry ≠ 0 ∧ r.expiry < day then
          (if st = .feeding then .held .feeding { r with expired := true }
           else if st = .standby ∧ r.releasePending = false then .held .rejectedExpired r
           else .held st r)
        else .held st r) ∧
      ((∃ x r, s.tank x = .held .standby r ∧ r.releasePending = false ∧ day ≠ 0 ∧ r.expiry ≠ 0 ∧ r.expiry < day) →
        u.notices = { s.notices with pending := s.notices.pending ||| 1#18 <<< 7 })) ∧
  (∀ (tag day : Nat) (c : ChannelId) (y : Side) (n : Nat) (r : TankRecord) (s : State), s.takesAtOnce (.dateSet day) →
    (s.channel c).feed = .switching y n → s.tank (tankOf c y) = .held .standby r → r.releasePending = false →
    day ≠ 0 → r.expiry ≠ 0 → r.expiry < day →
    (∀ r', s.tank (tankOf c y.other) = .held .standby r' →
      r'.releasePending = true ∨ (r'.expiry ≠ 0 ∧ r'.expiry < day)) →
    ∃ t u : State, exec (.dateSet tag day) s = .next t ∧ (u.settle s.asked).answers t tag .ok (.dates s.date day) ∧
      s.asked.sameBut [.supply, .tags, .notices, .date] u ∧ u.out = [] ∧ u.date = day ∧
      u.tank (tankOf c y) = .held .rejectedExpired r ∧ u.channel c = { s.channel c with feed := .starved } ∧
      u.notices.pending.getLsbD 6 = true ∧ u.notices.pending.getLsbD 7 = true ∧
      (∀ r', s.tank (tankOf c y.other) = .held .feeding r' →
        ∃ r'', u.tank (tankOf c y.other) = .held (if r'.fill = 0 then .depleted else .spent) r'' ∧
          r'' = { r' with writeMark := r''.writeMark,
                          expired := r'.expired || (decide (r'.expiry ≠ 0) && decide (r'.expiry < day)) }))

/-! ## The tag bus -/

/-- R81, R88, R90 to R95, R97 to R99: the end of the request frame starts the turnaround timer; a first attempt
without a usable answer is sent again, a second one ends; the guard timer's expiry releases the bus; an answer
or an expiry outside its phase has no effect. An accepted image replaces the copy and is validated; an accepted
write is handed where nothing newer is pending at the slot; refusals end a write failed with TAG_FAULT. -/
def Obligations.TagBusFollowsItsEvents : Prop :=
  (∀ s : State,
     (∀ tx, s.tags.phase = .request tx →
       exec .requestSent s = .next (s.begin.withTags { s.tags with phase := .turnaround tx 5 })) ∧
     ((∀ tx, s.tags.phase ≠ .request tx) → exec .requestSent s = .next s.begin) ∧
     (∀ tx n begun, s.tags.phase = .turnaround tx n → tx.retry = false →
       ∃ u : State, exec (.turnaroundExpiry begun) s = .next (u.settle s.begin) ∧ s.sameBut [.tags] u ∧
         u.tags = { s.tags with phase := .request { tx with retry := true } } ∧ u.out = [.tag (s.tagFrame tx)]) ∧
     (∀ tx n begun, s.tags.phase = .turnaround tx n → tx.retry = true → tx.op = .read →
       ∃ u : State, exec (.turnaroundExpiry begun) s = .next (u.settle s.begin) ∧ u.tags = { s.tags with phase := .idle } ∧
         u.tank tx.slot = .rejectedBare (if begun then .check else .silent)
           (match s.tank tx.slot with | .reading m => m | .rejectedBare _ m => m | _ => none) ∧
         u.notices = { s.notices with pending := s.notices.pending ||| 1#18 <<< 7 } ∧
         s.sameBut [.tags, .supply, .notices] u) ∧
     ((∀ tx n, s.tags.phase ≠ .turnaround tx n) → ∀ begun frame,
       exec (.turnaroundExpiry begun) s = .next s.begin ∧ exec (.tagAnswer frame) s = .next s.begin) ∧
     (∀ n, s.tags.phase = .guard n →
       exec .guardExpiry s = .next (State.settle (s.begin.withTags { s.tags with phase := .idle }) s.begin)) ∧
     ((∀ n, s.tags.phase ≠ .guard n) → exec .guardExpiry s = .next s.begin)) ∧
  (∀ (tx : TagTransaction) (n : Nat) (f : List Byte) (s : State), s.tags.phase = .turnaround tx n →
     (tx.op = .read → f.length = 23 → sealOk f = true → field f 0 1 = tx.slot.val → field f 1 1 = 0x01 →
       exec (.tagAnswer f) s = .next (State.settle (State.takeImage (s.begin.withTags
         { s.tags with phase := .idle, images := put s.tags.images tx.slot (some (((f.drop 2).take 20).take 18)) })
           tx.slot ((f.drop 2).take 20)) s.begin)) ∧
     (∀ fill st r, tx.op = .write fill → f.length = 7 → sealOk f = true → field f 0 1 = tx.slot.val →
       field f 1 1 = 0x02 → field f 2 4 = fill → s.tags.waiting[tx.slot] = none → s.tank tx.slot = .held st r →
       exec (.tagAnswer f) s = .next (State.settle ((s.begin.withTags { s.tags with phase := .idle }).setTank tx.slot
         (.held (if r.releasePending then .released else st)
           { r with lastWritten := fill, stale := false, releasePending := false })) s.begin)) ∧
     (∀ fill st r, tx.op = .write fill → f.length = 4 → sealOk f = true → field f 0 1 = tx.slot.val →
       field f 1 1 = 0xEE → (field f 2 1 = 2 ∨ field f 2 1 = 3 ∨ field f 2 1 = 4) → s.tags.waiting[tx.slot] = none →
       s.tank tx.slot = .held st r →
       exec (.tagAnswer f) s = .next (State.settle (((s.begin.withTags { s.tags with phase := .idle }).withNotices
         { s.notices with pending := s.notices.pending ||| 1#18 <<< 9 }).setTank tx.slot
         (.held (if r.releasePending then .released else st) { r with stale := true, releasePending := false })) s.begin)) ∧
     ((sealOk f = false ∨ field f 0 1 ≠ tx.slot.val) → tx.retry = false →
       ∃ u : State, exec (.tagAnswer f) s = .next (u.settle s.begin) ∧ s.sameBut [.tags] u ∧
         u.tags = { s.tags with phase := .request { tx with retry := true } } ∧ u.out = [.tag (s.tagFrame tx)]))

/-- R96, R98: a READ takes the place of what is pending at its slot and a WRITE that of an older WRITE; the
bus takes the first slot after the service pointer at which an operation is pending, and leaves the others. -/
def Obligations.BusServesTheNextPendingSlot : Prop :=
  (∀ (op : Option TagOp) (v : Nat), coalesce op .read = .read ∧ coalesce (some .read) (.write v) = .read ∧
    (op ≠ some .read → coalesce op (.write v) = .write v)) ∧
  ∀ (x : TankId) (op : TagOp) (k : Nat) (s : State), s.tags.phase = .idle → s.tags.waiting[x] = some op → k < 24 →
    x.val = (s.tags.pointer.val + 1 + k) % 24 →
    (∀ y : TankId, ∀ m, m < k → y.val = (s.tags.pointer.val + 1 + m) % 24 → s.tags.waiting[y] = none) →
    s.sameBut [.tags] s.serveTags ∧ s.serveTags.out = s.out ++ [.tag (s.tagFrame { slot := x, op := op, retry := false })] ∧
      s.serveTags.tags = { s.tags with phase := .request { slot := x, op := op, retry := false },
                                       waiting := put s.tags.waiting x none, pointer := x }

/-! ## Rolls and the media path -/

/-- R103 to R106, R110, R122: an accepted ROLL_LOAD, ROLL_SET, ROLL_SELECT and ROLL_UNLOAD. That an unload of
either roll ends the eject is the literal reading of R106 and R122 (log entry 20), that the unused bits of
ROLL_SET's groups are not read is the model's choice (log entry 10), and that a selection of the ACTIVE roll makes
the ROLL_LOW test again is read from R105 (log entry 46). -/
def Obligations.RollsAreLoadedSetSelectedAndUnloaded : Prop :=
  ∀ (tag : Nat) (r : RollId) (s : State),
    (let busy := s.desk.admitted ≠ [] ∨ s.desk.path ≠ [] ∨ (∃ y a ab, s.engine.op = some ⟨.swath y a, ab⟩) ∨
       ∃ n p ab, s.engine.op = some ⟨.feed n p, ab⟩
     let owesNoReport := ∀ y k, s.ticket y = some k → k.roll = r → k.outstanding = false
     (∀ mc w n p, s.takesAtOnce (.rollLoad r.val mc w n p) → (∀ x, s.roll r = some x → x.state ≠ .active) →
       owesNoReport → 1 ≤ mc → mc ≤ 255 → 254 ≤ w → w ≤ 1626 → n ≤ 300000 → s.media.mediaPresent[r] = true →
       s.media.rollEnd[r] = false →
       ∃ t u : State, exec (.rollLoad tag r.val mc w n p) s = .next t ∧ (u.settle s.asked).answers t tag .ok .empty ∧
         s.asked.sameBut [.media, .run] u ∧ u.out = [] ∧ u.run = (s.asked.reload .byRoll).run ∧
         u.media = { s.media with rolls := put s.media.rolls r (some
           { state := .loaded, mediaClass := mc, width := w, remaining := n, price := min p 10000000,
             threshold := 2000 }) }) ∧
     (∀ g p m x, s.takesAtOnce (.rollSet r.val g p m) → s.roll r = some x →
       ∃ t u : State, exec (.rollSet tag r.val g p m) s = .next t ∧ u.answers t tag .ok .empty ∧
         s.asked.sameBut [.media, .notices] u ∧ u.out = [] ∧ ∃ y : Roll,
           y = { x with price := if g.getLsbD 0 then min p 10000000 else x.price,
                        threshold := if g.getLsbD 1 then min m 300000 else x.threshold } ∧
           u.media = { s.media with rolls := put s.media.rolls r (some y) } ∧
           u.notices = { s.notices with pending :=
             if x.state = .active ∧ x.threshold < x.remaining ∧ x.remaining ≤ y.threshold
             then s.notices.pending ||| 1#18 <<< 10 else s.notices.pending }) ∧
     (∀ x, s.takesAtOnce (.rollSelect r.val) → s.roll r = some x → x.state ≠ .ended → ¬ busy →
       s.media.mediaPresent[r] = true →
       (∀ a b y z, s.roll a = some y → s.roll b = some z → y.state = .active → z.state = .active → a = b) →
       ∃ t u : State, exec (.rollSelect tag r.val) s = .next t ∧ (u.settle s.asked).answers t tag .ok .empty ∧
         s.asked.sameBut [.media, .notices] u ∧ u.out = [] ∧ u.roll r = some { x with state := .active } ∧
         (∀ q, q ≠ r → u.roll q = (s.roll q).map fun y => { y with state := if y.state = .active then .loaded else y.state }) ∧
         u.media = { s.media with rolls := u.media.rolls, position := 0, pathEnd := -750, ejectTimer := none, eject := false } ∧
         u.notices = { s.notices with pending :=
           if x.remaining ≤ x.threshold then s.notices.pending ||| 1#18 <<< 10 else s.notices.pending }) ∧
     (∀ x, s.takesAtOnce (.rollUnload r.val) → s.roll r = some x → owesNoReport → (x.state = .active → ¬ busy) →
       ∃ t u : State, exec (.rollUnload tag r.val) s = .next t ∧ (u.settle s.asked).answers t tag .ok .empty ∧
         s.asked.sameBut [.media] u ∧ u.out = [] ∧
         u.media = { s.media with rolls := put s.media.rolls r none, ejectTimer := none, eject := false }))

/-- R121 to R123: the delay is clamped and stored; the eject becomes active by an accepted EJECT and by the
eject timer's expiry; EJECT's refusals. That an EJECT which fails a check is refused also while the eject is
active is the model's reading (log entry 53). -/
def Obligations.EjectBecomesActive : Prop :=
  ∀ (tag : Nat) (s : State),
    (∀ n d, s.takesAtOnce (.ejectDelaySet n) →
      d = (if n = 0 then 0 else if n < 10 then 10 else if 3600 < n then 3600 else n) →
      ∃ t, exec (.ejectDelaySet tag n) s = .next t ∧
        (State.settle (s.asked.withMedia { s.media with ejectDelay := d }) s.asked).answers t tag .ok (.ejectDelay d)) ∧
    (s.takesAtOnce .eject →
      (s.desk.path = [] → ∃ t, exec (.eject tag) s = .next t ∧ s.asked.answers t tag .badState .empty) ∧
      (s.desk.path ≠ [] → (s.desk.admitted ≠ [] ∨ ∃ x k, x ∈ s.desk.path ∧ s.ticket x = some k ∧ k.fed ≠ k.l) →
        ∃ t, exec (.eject tag) s = .next t ∧ s.asked.answers t tag .busy .empty) ∧
      (s.desk.path ≠ [] → s.desk.admitted = [] → (∀ x k, x ∈ s.desk.path → s.ticket x = some k → k.fed = k.l) →
        ∃ t, exec (.eject tag) s = .next t ∧
          (State.settle (s.asked.withMedia { s.media with eject := true }) s.asked).answers t tag .ok .empty)) ∧
    (s.media.ejectTimer ≠ none → exec .ejectTimerExpiry s =
      .next (State.settle (s.begin.withMedia { s.media with eject := true, ejectTimer := none }) s.begin)) ∧
    (s.media.ejectTimer = none → exec .ejectTimerExpiry s = .next s.begin)

/-- R108, R109: what the roll lines do to a roll that is ACTIVE (the roll ends, and the run stops), LOADED,
ENDED or ABSENT; a media-present rise and a roll-end fall change no record. -/
def Obligations.RollLinesEndRolls : Prop :=
  ∀ (r : RollId) (s : State),
    exec (.rollEndLineFall r) s = .next (s.begin.withMedia { s.media with rollEnd := put s.media.rollEnd r false }) ∧
    exec (.mediaPresentRise r) s =
      .next (s.begin.withMedia { s.media with mediaPresent := put s.media.mediaPresent r true }) ∧
    (∀ x, s.roll r = some x → x.state = .active →
      exec (.rollEndLineRise r) s = .next (State.settle (State.stopNow ((s.begin.withMedia { s.media with
        rollEnd := put s.media.rollEnd r true, ejectTimer := none, eject := false,
        rolls := put s.media.rolls r (some { x with state := .ended, remaining := 0 }) }).withNotices
          { s.notices with pending := s.notices.pending ||| 1#18 <<< 11 }) .rollEnd .rollEnd) s.begin) ∧
      exec (.mediaPresentFall r) s = .next (State.settle (State.stopNow ((s.begin.withMedia { s.media with
        mediaPresent := put s.media.mediaPresent r false, ejectTimer := none, eject := false,
        rolls := put s.media.rolls r (some { x with state := .ended, remaining := 0 }) }).withNotices
          { s.notices with pending := s.notices.pending ||| 1#18 <<< 11 }) .rollEnd .rollEnd) s.begin)) ∧
    (∀ x, s.roll r = some x → x.state = .loaded →
      exec (.rollEndLineRise r) s = .next (State.settle ((s.begin.withMedia { s.media with
        rollEnd := put s.media.rollEnd r true,
        rolls := put s.media.rolls r (some { x with state := .ended, remaining := 0 }) }).withNotices
          { s.notices with pending := s.notices.pending ||| 1#18 <<< 11 }) s.begin)) ∧
    ((∀ x, s.roll r = some x → x.state = .ended) →
      exec (.rollEndLineRise r) s =
        .next (State.settle (s.begin.withMedia { s.media with rollEnd := put s.media.rollEnd r true }) s.begin)) ∧
    ((∀ x, s.roll r = some x → x.state ≠ .active) →
      exec (.mediaPresentFall r) s =
        .next (State.settle (s.begin.withMedia { s.media with mediaPresent := put s.media.mediaPresent r false }) s.begin))

/-! ## The engine link -/

/-- R129 to R131, R30: a request of a ticket that may not print is denied, and one taken while another is pending
is a protocol error; one that may becomes pending, and is granted in its event where the engine is free, no hold
applies, and no head-care operation or eject feed is due: the allowance is the smallest of the step, L − fed and d,
and what d cut off is owed. R36, R130: one that is held starts its ticket's pause timer, where the ticket has
printed a swath. R128, R134: where no head care is wanted and no media hold applies, a free engine is sent the FEED
that is due: the owed feed or d, the smaller, and else an eject feed of d. A refused request of a ticket whose
earlier one is pending leaves that one so, and an eject feed asks for no empty reservation: both are the model's
reading (log entries 51 and 47). -/
def Obligations.SwathRequestIsDeniedOrGranted : Prop :=
  (∀ (x : TicketId) (step : Nat) (s : State), 1 ≤ step → step ≤ 127 →
    ((s.run.state = .engineWait ∨ ∀ k, s.ticket x = some k → k.state ≠ .printing) →
      exec (.swathRequest x.val step) s = .next (s.withOut [.engine (.deny x)])) ∧
    (∀ k, s.run.state ≠ .engineWait → s.ticket x = some k → k.state = .printing → s.engine.request = none →
      exec (.swathRequest x.val step) s = .next (State.settle (s.begin.withEngine
        { s.engine with request := some { ticket := x, step := step, held := false } }) s.begin) ∧
      (s.run.state = .running → s.engine.op = none → s.holds x = [] → s.run.slot = none → s.run.manual = none →
        (∀ c : ChannelId, s.run.needsPurge[c] = none) → s.media.eject = false →
        ∃ t a, exec (.swathRequest x.val step) s = .next t ∧ .engine (.grant x a) ∈ t.out ∧
          a ≤ step ∧ a ≤ k.l - k.fed ∧ (∀ e es, s.media.stops = e :: es → a ≤ e.position - s.media.position) ∧
          (a = step ∨ a = k.l - k.fed ∨ ∃ e es, s.media.stops = e :: es ∧ a = e.position - s.media.position) ∧
          t.engine = { s.engine with op := some { kind := .swath x a, aborted := false }, request := none,
                                     swathTimer := some 20000,
                                     owed := if a < min step (k.l - k.fed) then some (x, min step (k.l - k.fed) - a)
                                             else none } ∧
          t.ticket x = some { k with outstanding := true, pauseTimer := none, lotMixed := k.lotMixed || k.changeSeen,
                                     changeSeen := false } ∧
          (∀ y, y ≠ x → t.ticket y = s.ticket y)) ∧
      (x ∉ s.desk.admitted →
        (s.engine.owed ≠ none ∨ (∃ e es, s.media.stops = e :: es ∧ e.position ≤ s.media.position) ∨
          (∃ e n h, s.cutter.state = .cutting e n h) ∨ (∃ h, s.cutter.state = .jammed h) ∨
          s.colour.sensor = .measuring ∨ s.colour.sensor = .calibrating ∨
          (∃ e, s.edition k.edition = some e ∧ ∃ c : ChannelId, e.channels.getLsbD c.val = true ∧
            ∀ y, (s.channel c).feed ≠ .fed y)) →
        ∃ t, exec (.swathRequest x.val step) s = .next t ∧
          t.engine.request = some { ticket := x, step := step, held := true } ∧
          t.ticket x = some { k with pauseTimer :=
            if k.swathCount = 0 then k.pauseTimer
            else if s.desk.pauseLimit = 0 then none else some (s.desk.pauseLimit * 1000) })) ∧
    (∀ k q, s.run.state ≠ .engineWait → s.ticket x = some k → k.state = .printing → s.engine.request = some q →
      exec (.swathRequest x.val step) s = .next (State.settle (State.stopNow (s.begin.withRun
        { s.run with protocolError := true }) .protocol .engine) s.begin))) ∧
  (∀ before s : State, s.engine.op = none → s.run.slot = none → (∀ o, ¬ s.wants o) →
    (∀ e n h, s.cutter.state ≠ .cutting e n h) → (∀ h, s.cutter.state ≠ .jammed h) →
    s.colour.sensor ≠ .measuring → s.colour.sensor ≠ .calibrating →
    (let t := s.settle before
     let sends := fun n p => t.engine.op = some { kind := .feed n p, aborted := false } ∧ .engine (.feed n) ∈ t.out ∧
       t.engine.owed = s.engine.owed
     (∀ x n, s.engine.owed = some (x, n) →
       (s.media.stops = [] → sends n (.owed x)) ∧
       (∀ e es, s.media.stops = e :: es →
         (s.media.position < e.position → sends (min n (e.position - s.media.position)) (.owed x)) ∧
         (e.position ≤ s.media.position → t.engine.op = none))) ∧
     (∀ e es, s.engine.owed = none → s.media.eject = true → s.media.stops = e :: es →
       s.media.position < e.position → sends (e.position - s.media.position) .eject)))

/-- R128, R130, R142: the end of an event leaves an outstanding operation as it is, and while a media hold
stands it begins no swath and no FEED; a step that sends a GRANT or a FEED leaves the cutter neither CUTTING nor
JAMMED and the sensor neither MEASURING nor CALIBRATING; and every step keeps the media-still law, in every state in
which it holds with the laws of the numbering and of the stop list: BLADE_FIT starts no traverse for an ignored action
while a GRANT or a FEED is outstanding, which is the model's choice (log entry 52). No frame waited before the step of the second clause, so that it executes
one request at most. -/
def Obligations.NothingMovesMediaUnderAMediaHold : Prop :=
  (∀ s before : State,
    (∀ o, s.engine.op = some o → (s.settle before).engine.op = some o) ∧
    (s.engine.op = none →
      ((∃ x n h, s.cutter.state = .cutting x n h) ∨ (∃ h, s.cutter.state = .jammed h) ∨
        s.colour.sensor = .measuring ∨ s.colour.sensor = .calibrating) →
      (∀ y a ab, (s.settle before).engine.op ≠ some ⟨.swath y a, ab⟩) ∧
      (∀ n p ab, (s.settle before).engine.op ≠ some ⟨.feed n p, ab⟩))) ∧
  (∀ s t : State, s.link.command = [] → step s = .next t →
    ((∃ y a, .engine (.grant y a) ∈ t.out) ∨ (∃ d, .engine (.feed d) ∈ t.out)) →
    (∀ x n h, t.cutter.state ≠ .cutting x n h) ∧ (∀ h, t.cutter.state ≠ .jammed h) ∧
      t.colour.sensor ≠ .measuring ∧ t.colour.sensor ≠ .calibrating) ∧
  (∀ s t : State, s.mediaStill → s.numberingSound → s.media.ordered → step s = .next t → t.mediaStill)

/-- R28, R53, R107, R112, R113, R116, R117, R133 to R135, with R46 to R52: an accepted report of a swath that was
not aborted: the operation ends, the ticket's count rises and its fed takes the length, its ink and accumulator
take the counts of every channel and the media, P advances and passes no stop, the roll's reservation falls with
its remaining length, and the owed feed takes the shortfall, or all that is left of a CANCELLING ticket; more fed
than allowed is a slip, which halts the run. R36: the first swath's report starts the pause timer of a ticket whose
next request is held, its held flag being set (log entry 42). An accepted report of a FEED: an owed feed falls by the length, which
is credited and charged to its ticket at the roll's width and price; an eject feed is blank, and so is an aborted
owed FEED, which pays nothing owed (log entry 24). R40, R58: the late report of an aborted swath is charged to its
ticket closed by the stop, whose final cost is computed again and whose edition's spoil cost takes the rise. -/
def Obligations.SwathAndFeedReportsAreCredited : Prop :=
  (∀ (x : TicketId) (a f : Nat) (counts : Vector DropCounts 12) (k : Ticket) (s : State),
     s.engine.op = some { kind := .swath x a, aborted := false } → s.ticket x = some k → x ∉ s.desk.admitted →
     k.fed < k.l →
     (f ≤ a → a ≤ k.l - k.fed → s.chargeable k → (k.state = .printing ∨ k.state = .cancelling) →
       ∃ u k', exec (.swathDone x.val f counts) s = .next (State.settle u s.begin) ∧ u.engine.op = none ∧
         u.engine.swathTimer = none ∧ u.media.position = s.media.position + f ∧ u.ticket x = some k' ∧
         k'.swathCount = min 65535 (k.swathCount + 1) ∧ k'.outstanding = false ∧ k'.fed = k.fed + f ∧
         s.charged counts f k k' ∧
         ((∀ y k', y ∈ s.desk.admitted → s.ticket y = some k' → k'.state = .admitted) →
           u.reservation k.roll + f = s.reservation k.roll) ∧
         (∀ c : ChannelId, u.costing.residues[c] + 10000 * s.debitOf counts c = s.costing.residues[c] +
           (min counts[c].small 268435455 * s.costing.volumes[c].small +
            min counts[c].medium 268435455 * s.costing.volumes[c].medium +
            min counts[c].large 268435455 * s.costing.volumes[c].large)) ∧
         ((∀ e ∈ s.media.stops, s.media.position + a ≤ e.position) → ∀ e ∈ u.media.stops, u.media.position ≤ e.position) ∧
         (∀ q, k.state = .printing → k.swathCount = 0 → k.fed + f < k.l → s.engine.request = some q → q.ticket = x →
           q.held = true →
           k'.pauseTimer = if s.desk.pauseLimit = 0 then none else some (s.desk.pauseLimit * 1000)) ∧
         k'.state = (if k.state = .printing ∧ k.fed + f = k.l then .travelling else k.state) ∧
         u.engine.owed = (if k.state = .cancelling then (if k.fed + f = k.l then none else some (x, k.l - (k.fed + f)))
           else if f < a then some (x, (match s.engine.owed with | some (_, n) => n | none => 0) + (a - f))
           else s.engine.owed) ∧
         (∀ r ρ, s.roll r = some ρ → ρ.state = .active → (∀ r' ρ', s.roll r' = some ρ' → ρ'.state = .active → r' = r) →
           u.roll r = some { ρ with remaining := ρ.remaining - f })) ∧
     (a < f → s.run.state ≠ .engineWait → s.run.state ≠ .halted →
       ∃ u, exec (.swathDone x.val f counts) s = .next (State.settle u s.begin) ∧ u.run.state = .halted ∧
         u.run.haltCause = some .slip ∧ u.notices.pending.getLsbD 16 = true ∧
         u.media.position = s.media.position + f ∧ u.engine.op = none ∧ u.engine.owed = none)) ∧
  (∀ (n f : Nat) (s : State), f ≤ n →
     (∀ x y m k ρ, s.engine.op = some { kind := .feed n (.owed y), aborted := false } → s.engine.owed = some (x, m) →
       f ≤ m → s.ticket x = some k → k.fed + f ≤ k.l → x ∉ s.desk.admitted → s.roll k.roll = some ρ →
       ∃ u k', exec (.feedDone f) s = .next (State.settle u s.begin) ∧
         u.engine = { s.engine with op := none, swathTimer := none, owed := if m = f then none else some (x, m - f) } ∧
         ((∀ e ∈ s.media.stops, s.media.position + n ≤ e.position) → ∀ e ∈ u.media.stops, u.media.position ≤ e.position) ∧
         u.media.position = s.media.position + f ∧ u.ticket x = some k' ∧ k'.fed = k.fed + f ∧
         k'.acc = min (2 ^ 64 - 1) (k.acc + f * (ρ.width * ρ.price)) ∧
         k'.saturated = (k.saturated || decide (2 ^ 64 - 1 < k.acc + f * (ρ.width * ρ.price))) ∧
         k'.swathCount = k.swathCount ∧
         (k.state = .printing → 0 < f → k'.state = if k.fed + f = k.l then .travelling else .printing)) ∧
     (s.engine.op = some { kind := .feed n .eject, aborted := false } ∨
         (∃ p, s.engine.op = some { kind := .feed n p, aborted := true }) →
       ∃ u, exec (.feedDone f) s = .next (State.settle u s.begin) ∧
         u.engine = { s.engine with op := none, swathTimer := none } ∧ u.media.position = s.media.position + f ∧
         u.media.eject = s.media.eject ∧
         (∀ x k, s.ticket x = some k → ∃ k', u.ticket x = some k' ∧ k'.fed = k.fed ∧ k'.acc = k.acc))) ∧
  (∀ (x : TicketId) (a f : Nat) (counts : Vector DropCounts 12) (k : Ticket) (e : Edition) (s : State),
     s.engine.op = some { kind := .swath x a, aborted := true } → s.ticket x = some k → k.state = .closedSpoiled →
     x ∉ s.desk.admitted → x ∉ s.desk.path → (∀ p ∈ s.media.placed, p.2.ticket ≠ x) → s.edition k.edition = some e →
     s.chargeable k → (f ≤ a ∨ s.run.state = .halted) →
     ∃ u k' cost, exec (.swathDone x.val f counts) s = .next (State.settle u s.begin) ∧ u.engine.op = none ∧
       u.engine.swathTimer = none ∧ u.engine.owed = s.engine.owed ∧ u.media.position = s.media.position + f ∧
       u.ticket x = some k' ∧ s.charged counts (min f (k.l - k.fed)) k k' ∧
       cost = k'.acc / 1000000 + (if 500000 ≤ k'.acc % 1000000 then 1 else 0) + k.fees ∧
       k' = { k with swathCount := min 65535 (k.swathCount + 1), outstanding := false,
                     fed := k.fed + min f (k.l - k.fed), finalCost := some cost, ink := k'.ink, acc := k'.acc,
                     saturated := k'.saturated, overdraw := k'.overdraw, countClamped := k'.countClamped } ∧
       u.edition k.edition = some { e with
         spoilCost := min (2 ^ 48 - 1) (e.spoilCost + (cost - k.finalCost.getD 0)) })

/-- R136, R177, R178, R180, R181. What a purge carries is fixed as it is sent: the wake purge takes every FED
channel with a volume and flags the others, a single-channel purge its channel's flagged level, a manual purge
the FED channels it names. The reports of the head-care operations end the operation and empty the head-care
slot; the UNCAP's moves the wake on, a purge's clears the flags of its channels, and the wake purge's ends the
wake. An aborted UNCAP's report moves no wake (log entry 21), and an aborted manual purge's clears its flags, which
R181 does not except as R178 and R180 do (log entry 28). R128, R175: at an event's end an empty slot is filled with
the first operation wanted, and a free engine is sent it; a slot that is filled stays so while its operation is out
or the engine is busy. -/
def Obligations.HeadCareIsSentAndReported : Prop :=
  (∀ s : State,
     (∀ lvl step v, s.run.wake = some (lvl, step) → v = s.run.volumesAt lvl →
       (∃ c : ChannelId, (∃ y, (s.channel c).feed = .fed y) ∧ 0 < v[c]) →
       ∃ set w, (s.sendPresented (.purge .wake)).engine.op = some { kind := .purge set w, aborted := false } ∧
         (s.sendPresented (.purge .wake)).out = s.out ++ [.engine (.purge set w)] ∧
         (s.sendPresented (.purge .wake)).run.slot = some { op := .purge .wake, sent := true } ∧
         ∀ c : ChannelId,
           (set.getLsbD c.val = true ↔ (∃ y, (s.channel c).feed = .fed y) ∧ 0 < v[c]) ∧
           w[c] = (if set.getLsbD c.val then v[c] else 0) ∧
           (s.sendPresented (.purge .wake)).run.needsPurge[c] =
             (if set.getLsbD c.val = false ∧ 0 < v[c] then some lvl else s.run.needsPurge[c])) ∧
     (∀ c y lvl, (s.channel c).feed = .fed y → s.run.needsPurge[c] = some lvl →
       (0 < (s.run.volumesAt lvl)[c] → ∃ w, (s.sendPresented (.purge (.single c))).engine.op =
           some { kind := .purge (1#12 <<< c.val) w, aborted := false } ∧
         ∀ b : ChannelId, w[b] = if b = c then (s.run.volumesAt lvl)[c] else 0) ∧
       ((s.run.volumesAt lvl)[c] = 0 → s.sendPresented (.purge (.single c)) =
         s.withRun { s.run with needsPurge := put s.run.needsPurge c none, slot := none })) ∧
     (∀ asked lvl, s.run.manual = some (asked, lvl) →
       (∃ c : ChannelId, asked.getLsbD c.val = true ∧ (∃ y, (s.channel c).feed = .fed y) ∧
         0 < (s.run.volumesAt lvl)[c]) →
       ∃ set w, (s.sendPresented (.purge .manual)).engine.op = some { kind := .purge set w, aborted := false } ∧
         (s.sendPresented (.purge .manual)).run.manual = none ∧
         ∀ c : ChannelId, (set.getLsbD c.val = true ↔ asked.getLsbD c.val = true ∧
           (∃ y, (s.channel c).feed = .fed y) ∧ 0 < (s.run.volumesAt lvl)[c]) ∧
           w[c] = if set.getLsbD c.val then (s.run.volumesAt lvl)[c] else 0)) ∧
  (∀ (ab : Bool) (s : State),
     (s.engine.op = some { kind := .park, aborted := ab } → exec .parkDone s = .next (State.settle
       ((s.begin.withEngine { s.engine with op := none, swathTimer := none }).withRun { s.run with slot := none }) s.begin)) ∧
     (s.engine.op = some { kind := .cap, aborted := ab } → exec .capDone s = .next (State.settle
       ((s.begin.withEngine { s.engine with op := none, swathTimer := none }).withRun { s.run with slot := none }) s.begin)) ∧
     (s.engine.op = some { kind := .uncap, aborted := ab } → exec .uncapDone s = .next (State.settle
       ((s.begin.withEngine { s.engine with op := none, swathTimer := none }).withRun { s.run with
         slot := none, wake := match s.run.wake with
           | some (lvl, .uncap) => if ab then some (lvl, .uncap) else some (lvl, .purge)
           | w => w }) s.begin)) ∧
     (∀ set w v, s.engine.op = some { kind := .purge set w, aborted := ab } →
       ∃ u, exec (.purgeDone v) s = .next (State.settle u s.begin) ∧ u.run.slot = none ∧
         (∀ kind, s.run.slot = some { op := .purge kind, sent := true } → ∀ c : ChannelId, u.run.needsPurge[c] =
           if set.getLsbD c.val = true ∧ (ab = false ∨ kind = .manual) then none else s.run.needsPurge[c]) ∧
         (s.run.slot = some { op := .purge .wake, sent := true } → ab = false →
           u.run.wake = none ∧ u.run.state =
             (if ∀ x k, s.ticket x = some k → k.state = .closedGood ∨ k.state = .closedSpoiled then .idle
              else if s.run.resumeWait then .paused else .running)) ∧
         ((∀ k, s.run.slot ≠ some { op := .purge .wake, sent := k }) ∨ ab = true →
           u.run.wake = s.run.wake ∧ u.run.state = s.run.state))) ∧
  (∀ before s : State,
     (∀ o, s.run.slot = none → s.wants o →
       (s.engine.op ≠ none → (s.settle before).run.slot = some { op := o, sent := false } ∧
         (s.settle before).engine.op = s.engine.op) ∧
       (s.engine.op = none →
         ((s.sendPresented o).engine.op ≠ none →
           (s.settle before).engine.op = (s.sendPresented o).engine.op ∧
           (s.settle before).run.slot = some { op := o, sent := true }) ∧
         (o = .uncap → (s.settle before).engine.op = some { kind := .uncap, aborted := false } ∧
           .engine .uncap ∈ (s.settle before).out) ∧
         (o = .park → (s.settle before).engine.op = some { kind := .park, aborted := false } ∧
           .engine .park ∈ (s.settle before).out) ∧
         (o = .cap → (s.settle before).engine.op = some { kind := .cap, aborted := false } ∧
           .engine .cap ∈ (s.settle before).out))) ∧
     (s.run.slot = none → (∀ o, ¬ s.wants o) → (s.settle before).run.slot = none) ∧
     (∀ p, s.run.slot = some p → p.sent = true ∨ s.engine.op ≠ none → (s.settle before).run.slot = some p))

/-! ## Stop-now and restart -/

/-- R39, R120, R137, R151, R168, R183: what the stop-now treatment leaves in each block, outside ENGINE_WAIT. That an
action which waits in WORN and was ignored already is dropped too is the model's reading (log entry 56). -/
def Obligations.StopNowStopsEveryBlock : Prop :=
  ∀ (halt : HaltCause) (cause : SpoilCause) (s : State), s.run.state ≠ .engineWait →
    (s.desk.admitted ++ s.desk.path).Nodup →
    (let u := s.stopNow halt cause
     s.sameBut [.editions, .desk, .supply, .tags, .media, .engine, .cutter, .colour, .run, .notices] u ∧
     u.run = { s.run with
       state := .halted, dozeTimer := none, capTimer := none, wake := none, resumeWait := false, manual := none,
       wanted := none,
       slot := (match s.run.slot with | some ⟨_, false⟩ => none | x => x),
       haltCause := if s.run.state = .halted then s.run.haltCause else some halt,
       headsAtHalt := if s.run.state = .halted then s.run.headsAtHalt else some
         (match s.run.state, s.run.wake with
           | .capped, _ => .covered
           | .doze, _ => .unpurged
           | .waking, some (_, .uncap) => .covered
           | .waking, some (_, .purge) => .unpurged
           | _, _ => .ready) } ∧
     u.engine = { s.engine with
       op := s.engine.op.map (fun o => { o with aborted := true }), request := none, owed := none,
       swathTimer := match s.engine.op with
         | some o => if o.aborted then s.engine.swathTimer else some 20000
         | none => s.engine.swathTimer } ∧
     u.out = s.out ++ [.engine .abort] ++ (match s.engine.request with
       | some q => [.engine (.deny q.ticket)]
       | none => []) ∧
     u.desk = { s.desk with tickets := u.desk.tickets, admitted := [], path := [] } ∧
     (∀ x k, s.ticket x = some k → u.ticket x = some (
       if x ∈ s.desk.admitted then
         { k with state := .closedSpoiled, spoilCause := some cause, finalCost := some 0, qualifying := false }
       else if x ∈ s.desk.path then
         { k with state := .closedSpoiled, finalCost := some k.cost, qualifying := false, pauseTimer := none,
                  spoilCause := some (if k.state = .cancelling then k.spoilCause.getD cause else cause) }
       else k)) ∧
     (∀ i e, s.edition i = some e → ∃ e' xs ys, u.edition i = some e' ∧
       xs = s.desk.admitted.filter (fun x => match s.ticket x with | some k => k.edition == i | none => false) ∧
       ys = s.desk.path.filter (fun x => match s.ticket x with | some k => k.edition == i | none => false) ∧
       e' = { e with returns := e'.returns, inFlight := e.inFlight - (xs.length + ys.length),
                     spoiled := if ys = [] then e.spoiled else min 65535 (e.spoiled + ys.length),
                     spoilCost := e'.spoilCost } ∧
       e'.returns.Perm (s.numbersOf (xs ++ ys) ++ e.returns)) ∧
     u.media = { s.media with stops := [], ejectTimer := none, eject := false } ∧
     u.cutter = { s.cutter with state := match s.cutter.state with
       | .idle => .idle
       | .cutting x n h => .cutting x n { h with ignored := true }
       | .jammed h => .jammed { h with ignored := true }
       | .worn _ => .worn none } ∧
     u.colour = { s.colour with held := s.colour.held.map fun h => { h with discard := true } } ∧
     u.supply.channels = s.supply.channels ∧ u.supply.presence = s.supply.presence ∧
     (∀ y st r, s.tank y = .held st r → u.tank y =
       if st = .feeding ∧ (r.fill ≠ r.lastWritten ∨ r.stale = true) then .held st { r with writeMark := r.fill }
       else .held st r) ∧
     (∀ y r, s.tank y = .held .feeding r → (r.fill ≠ r.lastWritten ∨ r.stale = true) → u.tags.waiting[y] ≠ none) ∧
     u.notices.pending.getLsbD 16 = (s.notices.pending.getLsbD 16 || decide (s.run.state ≠ .halted)))

/-- R129, R138 to R141, R173, R183, R198: the causes of a stop-now other than a roll end and a slip, each with
what it does first; in ENGINE_WAIT STOP(NOW) is refused, and the others apply no treatment. ENGINE_READY in
ENGINE_WAIT leaves the run CAPPED; in any other state it is a restart: the operation is lost, the request
dropped unanswered, the owed feed 0, and the run halted. -/
def Obligations.EveryStopCauseAppliesTheTreatment : Prop :=
  (∀ s : State,
     (s.run.state = .engineWait → ∀ halt cause, s.stopNow halt cause = s) ∧
     (∀ tag, s.takesAtOnce .stopNow →
       (s.run.state = .engineWait →
         ∃ t, exec (.stopNow tag) s = .next t ∧ s.asked.answers t tag .badState .empty) ∧
       (s.run.state ≠ .engineWait → ∃ t, exec (.stopNow tag) s = .next t ∧
         (State.settle (s.asked.stopNow .stop .stopped) s.asked).answers t tag .ok .empty)) ∧
     (∀ code, exec (.engineFault code) s = .next (State.settle (State.stopNow ((s.begin.withEngine
       { s.engine with lastFault := some code }).withNotices
         { s.notices with pending := s.notices.pending ||| 1#18 <<< 15 }) .fault .engine) s.begin)) ∧
     (s.engine.swathTimer = none → exec .swathTimerExpiry s = .next s.begin) ∧
     (∀ n o, s.engine.swathTimer = some n → s.engine.op = some o →
       (o.aborted = false → exec .swathTimerExpiry s = .next (State.settle (State.stopNow (s.begin.withNotices
         { s.notices with pending := s.notices.pending ||| 1#18 <<< 15 }) .swathTimeout .engine) s.begin)) ∧
       (o.aborted = true → ∃ u, exec .swathTimerExpiry s = .next (State.settle u s.begin) ∧
         s.sameBut [.engine, .notices, .desk, .run] u ∧ u.out = [] ∧
         u.engine = { s.engine with op := none, swathTimer := none } ∧
         u.notices = { s.notices with pending := s.notices.pending ||| 1#18 <<< 15 } ∧
         (∀ x a, o.kind = .swath x a → u.run = s.run ∧
           u.ticket x = (s.ticket x).map fun k => { k with outstanding := false }) ∧
         ((∃ set v, o.kind = .purge set v) ∨ o.kind = .park ∨ o.kind = .cap ∨ o.kind = .uncap →
           u.desk = s.desk ∧ u.run = { s.run with slot := none }))) ∧
     (s.run.state ≠ .engineWait →
       (let error := fun c => exec c s = .next (State.settle (State.stopNow (s.begin.withRun
          { s.run with protocolError := true }) .protocol .engine) s.begin)
        error .engineFrameInvalid ∧
        (∀ id step, 7 < id ∨ step < 1 ∨ 127 < step → error (.swathRequest id step)) ∧
        (∀ id f counts, (∀ x a ab, s.engine.op = some ⟨.swath x a, ab⟩ → x.val ≠ id) → error (.swathDone id f counts)) ∧
        (∀ f, (∀ n p ab, s.engine.op ≠ some ⟨.feed n p, ab⟩) → error (.feedDone f)) ∧
        (∀ v, (∀ set w ab, s.engine.op ≠ some ⟨.purge set w, ab⟩) → error (.purgeDone v)) ∧
        ((∀ ab, s.engine.op ≠ some ⟨.park, ab⟩) → error .parkDone) ∧
        ((∀ ab, s.engine.op ≠ some ⟨.cap, ab⟩) → error .capDone) ∧
        ((∀ ab, s.engine.op ≠ some ⟨.uncap, ab⟩) → error .uncapDone))) ∧
     (s.run.state = .engineWait → exec .engineFrameInvalid s = .next (State.settle s.begin s.begin))) ∧
  (∀ s : State,
     (s.run.state = .engineWait →
       ∃ u, exec .engineReady s = .next (State.settle u s.begin) ∧ s.sameBut [.run, .supply, .tags] u ∧ u.out = [] ∧
         u.run = { s.run with state := .capped, dozeTimer := none, capTimer := none } ∧
         u.supply.channels = s.supply.channels) ∧
     (s.run.state ≠ .engineWait → s.run.state ≠ .halted →
       ∃ u, exec .engineReady s = .next (State.settle u s.begin) ∧
         u.engine = { s.engine with op := none, swathTimer := none, request := none, owed := none } ∧
         u.run.state = .halted ∧ u.run.haltCause = some .restart ∧ u.out = [.engine .abort] ∧
         u.desk.admitted = [] ∧ u.desk.path = [] ∧ u.media.stops = []))

/-! ## The cutter -/

/-- R145, R147, R148, R38, R54, R55: what the carriage's lines and the cut timer do. A traverse toward either end
ends at that end's line: the side is that end, and the cutter IDLE, or WORN with BLADE_WORN where no life is left. An
ignored action ends with that alone. A SEPARATE or a TRAIL_CUT charges the cut fee to its unclosed ticket, a
LEAD_TRIM to the house account, with its gap at the ACTIVE roll's width and price; the action leaves the stop
list, and at its trail cut the ticket closes, as TrailCutCloseFollowsTheTable says of State.closeAtTrail. R116, R118,
R146, R159: the report of an eject feed, or of a PRINTING ticket's swath, that brings P to the first entry hands its
actions to their units, where no ticket started since is re-placed by the report (R115). -/
def Obligations.CutterFollowsItsLines : Prop :=
  (∀ s : State,
    (s.cutter.state = .idle ∨ (∃ h, s.cutter.state = .jammed h) ∨ (∃ w, s.cutter.state = .worn w) →
      exec .homeLineRise s = .next (State.settle (s.begin.withCutter { s.cutter with homeLine := true, side := .homeEnd })
        s.begin) ∧
      exec .endLineRise s = .next (State.settle (s.begin.withCutter { s.cutter with endLine := true, side := .farEnd })
        s.begin)) ∧
    exec (.cutterLineFall .homeEnd) s = .next (s.begin.withCutter { s.cutter with homeLine := false }) ∧
    exec (.cutterLineFall .farEnd) s = .next (s.begin.withCutter { s.cutter with endLine := false }) ∧
    (∀ n h, s.cutter.state = .cutting .farEnd n h →
      exec .homeLineRise s = .next (State.settle (s.begin.withCutter { s.cutter with homeLine := true }) s.begin)) ∧
    (∀ n h, s.cutter.state = .cutting .homeEnd n h →
      exec .endLineRise s = .next (State.settle (s.begin.withCutter { s.cutter with endLine := true }) s.begin)) ∧
    (∀ e n h, s.cutter.state = .cutting e n h →
      exec .cutTimerExpiry s = .next (State.settle ((s.begin.withCutter { s.cutter with state := .jammed h }).withNotices
        { s.notices with pending := s.notices.pending ||| 1#18 <<< 12 }) s.begin)) ∧
    ((∀ e n h, s.cutter.state ≠ .cutting e n h) → exec .cutTimerExpiry s = .next s.begin)) ∧
  (∀ (target : CarriageEnd) (n : Nat) (h : HeldCut) (c : Instr) (s : State), s.cutter.state = .cutting target n h →
    c = (match target with | .homeEnd => .homeLineRise | .farEnd => .endLineRise) →
    (let worn := s.cutter.life = 0
     let cutter : Cutter := { s.cutter with
       state := if worn then .worn none else .idle, side := target,
       homeLine := s.cutter.homeLine || target == .homeEnd, endLine := s.cutter.endLine || target == .farEnd }
     let notices : Notices := { s.notices with pending :=
       if worn then s.notices.pending ||| 1#18 <<< 13 else s.notices.pending }
     let left := fun (p : StopKind → Bool) => s.media.placed.filter fun a =>
       !(a.2.handed && p a.2.kind && a.2.ticket == h.ticket)
     (h.ignored = true → ∃ u, exec c s = .next (State.settle u s.begin) ∧
       s.sameBut [.cutter, .notices] u ∧ u.out = [] ∧ u.cutter = cutter ∧ u.notices = notices) ∧
     (∀ k, h.ignored = false → h.kind = .separate → s.ticket h.ticket = some k → k.state.unclosed = true →
       ∃ u, exec c s = .next (State.settle u s.begin) ∧
         s.sameBut [.cutter, .notices, .desk, .media] u ∧ u.out = [] ∧ u.cutter = cutter ∧ u.notices = notices ∧
         u.ticket h.ticket = some { k with fees := k.fees + s.costing.cutFee } ∧
         (∀ y, y ≠ h.ticket → u.ticket y = s.ticket y) ∧ u.desk = { s.desk with tickets := u.desk.tickets } ∧
         u.media = { s.media with stops := u.media.stops } ∧ u.media.placed = left (· == .separate)) ∧
     (∀ pos gap r ρ, h.ignored = false → h.kind = .leadTrim →
       (pos, { kind := .leadTrim gap, ticket := h.ticket, handed := true }) ∈ s.media.placed →
       (∀ a ∈ s.media.placed, ∀ g, a.2 = { kind := .leadTrim g, ticket := h.ticket, handed := true } → g = gap) →
       s.roll r = some ρ → ρ.state = .active → (∀ r' ρ', s.roll r' = some ρ' → ρ'.state = .active → r' = r) →
       ∃ u, exec c s = .next (State.settle u s.begin) ∧
         s.sameBut [.cutter, .notices, .costing, .media] u ∧ u.out = [] ∧ u.cutter = cutter ∧ u.notices = notices ∧
         (let charge := s.costing.cutFee * 1000000 + gap * (ρ.width * ρ.price)
          u.costing = { s.costing with
            house := min (2 ^ 64 - 1) (s.costing.house + charge),
            houseSaturated := s.costing.houseSaturated || decide (2 ^ 64 - 1 < s.costing.house + charge) }) ∧
         u.media = { s.media with stops := u.media.stops } ∧
         u.media.placed = left fun a => match a with | .leadTrim _ => true | _ => false) ∧
     (∀ k a, h.ignored = false → h.kind = .trailCut → s.ticket h.ticket = some k → k.state.unclosed = true →
       h.ticket ∉ s.desk.admitted → a ∈ s.media.placed →
       a.2 = { kind := .trailCut, ticket := h.ticket, handed := true } →
       ∃ u v k', exec c s = .next (State.settle u s.begin) ∧
         s.sameBut [.cutter, .desk, .media] v ∧ v.out = [] ∧
         v.ticket h.ticket = some { k with fees := k.fees + s.costing.cutFee } ∧
         (∀ y, y ≠ h.ticket → v.ticket y = s.ticket y) ∧ v.desk = { s.desk with tickets := v.desk.tickets } ∧
         v.media = { s.media with stops := v.media.stops } ∧ v.media.placed = left (· == .trailCut) ∧
         (v.closeAtTrail h.ticket).sameBut [.cutter, .notices] u ∧ u.cutter = cutter ∧
         u.notices = { (v.closeAtTrail h.ticket).notices with pending :=
           if worn then (v.closeAtTrail h.ticket).notices.pending ||| 1#18 <<< 13
           else (v.closeAtTrail h.ticket).notices.pending } ∧
         u.ticket h.ticket = some k' ∧ (k'.state = .closedGood ∨ k'.state = .closedSpoiled) ∧
         k'.finalCost = some (k.acc / 1000000 + (if 500000 ≤ k.acc % 1000000 then 1 else 0) +
           (k.fees + s.costing.cutFee)) ∧ (s.desk.path.erase h.ticket) <+: u.desk.path ∧
         u.notices.pending.getLsbD 0 = true))) ∧
  (∀ (n : Nat) (e : StopEntry) (es : List StopEntry) (s : State), s.media.stops = e :: es →
    e.position = s.media.position + n → (∀ a ∈ e.actions, a.handed = false) →
    (s.engine.op = some { kind := .feed n .eject, aborted := false } →
      (∀ y k, s.ticket y = some k → k.state = .printing ∨ k.state = .cancelling → k.fed ≠ 0) →
      ∃ u, exec (.feedDone n) s = .next (State.settle u s.begin) ∧ u.media.position = e.position ∧ s.reached u e es) ∧
    (∀ x a k counts, s.engine.op = some { kind := .swath x a, aborted := false } → n ≤ a → s.ticket x = some k →
      k.state = .printing → k.fed + n < k.l →
      (∀ y k', y ≠ x → s.ticket y = some k' → k'.state = .printing ∨ k'.state = .cancelling → k'.fed ≠ 0) →
      ∃ u, exec (.swathDone x.val n counts) s = .next (State.settle u s.begin) ∧ u.media.position = e.position ∧
        s.reached u e es))

/-- R142, R146, R149, R150: CUTTER_CLEAR is refused outside JAMMED; a retry starts a traverse for the held action or
waits for a blade, a made clear completes the held action, with its fee, or ends an ignored one; BLADE_FIT stores
the life and starts the waiting action, but for an ignored one while a GRANT or a FEED is outstanding, which it drops:
that is the model's choice, where R142 and R150 collide (log entry 52). That the side is HOME where both lines are high, and that the reply of a
fit which starts a traverse carries the life fitted, are the model's readings (log entries 49 and 48). -/
def Obligations.JamsAreClearedAndBladesFitted : Prop :=
  ∀ (tag : Nat) (s : State),
    (let side : CarriageEnd := if s.cutter.homeLine then .homeEnd else if s.cutter.endLine then .farEnd else s.cutter.side
     (s.takesAtOnce .cutterClearMade →
       ((∀ h, s.cutter.state ≠ .jammed h) →
         ∃ t, exec (.cutterClearMade tag) s = .next t ∧ s.asked.answers t tag .badState .empty) ∧
       (∀ h, s.cutter.state = .jammed h → h.ignored = true → ∃ t u : State, exec (.cutterClearMade tag) s = .next t ∧
         (u.settle s.asked).answers t tag .ok .empty ∧ s.asked.sameBut [.cutter, .notices] u ∧ u.out = [] ∧
         u.cutter = { s.cutter with side := side, state := if s.cutter.life = 0 then .worn none else .idle } ∧
         u.notices = { s.notices with pending :=
           if s.cutter.life = 0 then s.notices.pending ||| 1#18 <<< 13 else s.notices.pending }) ∧
       (∀ h k, s.cutter.state = .jammed h → h.ignored = false → h.kind = .separate → s.ticket h.ticket = some k →
         k.state.unclosed = true → ∃ t u : State, exec (.cutterClearMade tag) s = .next t ∧
           (u.settle s.asked).answers t tag .ok .empty ∧ u.cutter.life = s.cutter.life ∧
           u.ticket h.ticket = some { k with fees := k.fees + s.costing.cutFee }) ∧
       (∀ h pos gap r ρ, s.cutter.state = .jammed h → h.ignored = false → h.kind = .leadTrim →
         (pos, { kind := .leadTrim gap, ticket := h.ticket, handed := true }) ∈ s.media.placed →
         (∀ a ∈ s.media.placed, ∀ g, a.2 = { kind := .leadTrim g, ticket := h.ticket, handed := true } → g = gap) →
         s.roll r = some ρ → ρ.state = .active → (∀ r' ρ', s.roll r' = some ρ' → ρ'.state = .active → r' = r) →
         ∃ t u : State, exec (.cutterClearMade tag) s = .next t ∧ (u.settle s.asked).answers t tag .ok .empty ∧
           u.cutter.life = s.cutter.life ∧ u.costing.house = min (2 ^ 64 - 1)
             (s.costing.house + (s.costing.cutFee * 1000000 + gap * (ρ.width * ρ.price)))) ∧
       (∀ h k a, s.cutter.state = .jammed h → h.ignored = false → h.kind = .trailCut → s.ticket h.ticket = some k →
         k.state.unclosed = true → h.ticket ∉ s.desk.admitted → a ∈ s.media.placed →
         a.2 = { kind := .trailCut, ticket := h.ticket, handed := true } →
         ∃ (t u : State) (k' : Ticket), exec (.cutterClearMade tag) s = .next t ∧
           (u.settle s.asked).answers t tag .ok .empty ∧ u.cutter.life = s.cutter.life ∧
           u.ticket h.ticket = some k' ∧ (k'.state = .closedGood ∨ k'.state = .closedSpoiled) ∧
           k'.fees = k.fees + s.costing.cutFee)) ∧
     (s.takesAtOnce .cutterClearRetry →
       ((∀ h, s.cutter.state ≠ .jammed h) →
         ∃ t, exec (.cutterClearRetry tag) s = .next t ∧ s.asked.answers t tag .badState .empty) ∧
       (∀ h, s.cutter.state = .jammed h → ∃ t u : State, exec (.cutterClearRetry tag) s = .next t ∧
         (u.settle s.asked).answers t tag .ok .empty ∧ s.asked.sameBut [.cutter, .notices] u ∧ u.out = [] ∧
         (s.cutter.life = 0 → u.cutter = { s.cutter with side := side, state := .worn (some h) } ∧
           u.notices = { s.notices with pending := s.notices.pending ||| 1#18 <<< 13 }) ∧
         (0 < s.cutter.life → u.notices = s.notices ∧ u.cutter = { s.cutter with
           side := side, life := s.cutter.life - 1,
           state := .cutting (if side = .homeEnd then .farEnd else .homeEnd) 4000 h }))) ∧
     (∀ n, s.takesAtOnce (.bladeFit n) →
       ((∃ e m h, s.cutter.state = .cutting e m h) ∨ (∃ h, s.cutter.state = .jammed h) →
         ∃ t, exec (.bladeFit tag n) s = .next t ∧ s.asked.answers t tag .busy .empty) ∧
       (s.cutter.state = .idle ∨ (∃ w, s.cutter.state = .worn w) → 100000 < n →
         ∃ t, exec (.bladeFit tag n) s = .next t ∧ s.asked.answers t tag .range .empty) ∧
       (s.cutter.state = .idle ∨ (∃ w, s.cutter.state = .worn w) → n ≤ 100000 →
         ∃ t u : State, exec (.bladeFit tag n) s = .next t ∧ (u.settle s.asked).answers t tag .ok (.bladeLife n) ∧
           s.asked.sameBut [.cutter, .notices] u ∧ u.out = [] ∧
           u.notices = { s.notices with pending :=
             if s.cutter.state = .idle ∧ n = 0 then s.notices.pending ||| 1#18 <<< 13 else s.notices.pending } ∧
           (∀ h, s.cutter.state = .worn (some h) →
             (n = 0 → u.cutter = { s.cutter with life := 0 }) ∧
             (0 < n → h.ignored = false ∨ ¬ s.moving → u.cutter = { s.cutter with
               life := n - 1, state := .cutting (if s.cutter.side = .homeEnd then .farEnd else .homeEnd) 4000 h }) ∧
             (0 < n → h.ignored = true → s.moving → u.cutter = { s.cutter with life := n, state := .idle })) ∧
           ((∀ h, s.cutter.state ≠ .worn (some h)) →
             u.cutter = { s.cutter with life := n, state := if n = 0 then .worn none else .idle }))))

/-! ## Colour checks -/

/-- R154, R155, R169: a load clamps its targets and replaces the list whole, a clear empties it, both refused
IN_USE while an edition names the set and BAD_SLOT above 15; SENSOR_RESET returns the sensor to UNCALIBRATED. -/
def Obligations.RefsetsAreLoadedAndTheSensorReset : Prop :=
  (∀ (tag i : Nat) (s : State), 15 < i →
    (∀ n ts, s.takesAtOnce (.refsetLoad i n ts) →
      ∃ t, exec (.refsetLoad tag i n ts) s = .next t ∧ s.asked.answers t tag .badSlot .empty) ∧
    (s.takesAtOnce (.refsetClear i) →
      ∃ t, exec (.refsetClear tag i) s = .next t ∧ s.asked.answers t tag .badSlot .empty)) ∧
  ∀ (tag : Nat) (r : RefsetId) (s : State),
    (∀ n ts, s.takesAtOnce (.refsetLoad r.val n ts) →
      (0 < (s.refset r).useCount →
        ∃ t, exec (.refsetLoad tag r.val n ts) s = .next t ∧ s.asked.answers t tag .inUse .empty) ∧
      ((s.refset r).useCount = 0 → (n = 0 ∨ 24 < n ∨ ts.length ≠ n) →
        ∃ t, exec (.refsetLoad tag r.val n ts) s = .next t ∧ s.asked.answers t tag .range .empty) ∧
      ((s.refset r).useCount = 0 → 1 ≤ n → n ≤ 24 → ts.length = n →
        ∃ t u : State, exec (.refsetLoad tag r.val n ts) s = .next t ∧ u.answers t tag .ok (.patchCount n) ∧
          s.asked.sameBut [.colour] u ∧ u.out = [] ∧ u.colour = { s.colour with sets := u.colour.sets } ∧
          (∀ q, q ≠ r → u.refset q = s.refset q) ∧ u.refset r = {
            useCount := 0,
            targets := ts.map fun x =>
              { l := max 0 (min x.l 10000), a := max (-12800) (min x.a 12799), b := max (-12800) (min x.b 12799) } })) ∧
    (s.takesAtOnce (.refsetClear r.val) →
      (0 < (s.refset r).useCount →
        ∃ t, exec (.refsetClear tag r.val) s = .next t ∧ s.asked.answers t tag .inUse .empty) ∧
      ((s.refset r).useCount = 0 → ∃ t, exec (.refsetClear tag r.val) s = .next t ∧
        (s.asked.withColour { s.colour with sets := put s.colour.sets r { targets := [], useCount := 0 } }).answers t tag
          .ok .empty)) ∧
    (s.takesAtOnce .sensorReset →
      ((s.colour.sensor = .calibrating ∨ s.colour.sensor = .measuring ∨
          (s.colour.settle ≠ none ∧ s.colour.held ≠ none)) →
        ∃ t, exec (.sensorReset tag) s = .next t ∧ s.asked.answers t tag .busy .empty) ∧
      (s.colour.sensor ≠ .calibrating → s.colour.sensor ≠ .measuring →
        (s.colour.settle = none ∨ s.colour.held = none) →
        ∃ t, exec (.sensorReset tag) s = .next t ∧
          (s.asked.withColour { s.colour with sensor := .uncalibrated, calCount := 0, lastError := none }).answers t tag
            .ok .empty))

/-- R158, R161, R168: an answer that is not current, and a malformed frame, change nothing; how a calibration
ends, with no read held, with one that is discarded, and with one that goes on to its measurement; and what
the settle timer's expiry does. R159, R160, R166, R167: a patch read handed ends UNVERIFIED where its set is empty
or of another length, the sensor undisturbed; else it is held, and waits for the settle time, ends UNVERIFIED with
SENSOR_FAULT in FAILED, or sends CALIBRATE, where that is due, or MEASURE. -/
def Obligations.CalibrationEndsAsItsAnswerSays : Prop :=
  (∀ (x : Nat) (s : State),
    exec .sensorFrameInvalid s = .next s.begin ∧
    ((s.colour.settle ≠ none ∨ s.colour.sensor ≠ .calibrating ∨ s.colour.exchange ≠ x) →
      ∀ ok, exec (.calDone x ok) s = .next s.begin) ∧
    ((s.colour.settle ≠ none ∨ s.colour.sensor ≠ .measuring ∨ s.colour.exchange ≠ x) →
      ∀ row code, exec (.result x row) s = .next s.begin ∧ exec (.sensorError x code) s = .next s.begin) ∧
    (s.colour.settle = none → s.colour.sensor = .calibrating → s.colour.exchange = x →
      (s.colour.held = none ∨ (∃ h, s.colour.held = some h ∧ h.discard = true) →
        exec (.calDone x true) s = .next (State.settle (s.begin.withColour
          { s.colour with sensor := .idle, calCount := 0, held := none, timer := none }) s.begin) ∧
        exec (.calDone x false) s = .next (State.settle ((s.begin.withColour
          { s.colour with sensor := .failed, held := none, timer := none }).withNotices
            { s.notices with pending := s.notices.pending ||| 1#18 <<< 14 }) s.begin)) ∧
      (∀ h, s.colour.held = some h → h.discard = false →
        exec (.calDone x true) s = .next (State.settle ((s.begin.withColour { s.colour with
          sensor := .measuring, calCount := 1, exchange := (x + 1) % 256, timer := some 3000 }).withOut
            [.sensor (.measure ((x + 1) % 256) h.patches)]) s.begin) ∧
        (∀ k, s.ticket h.ticket = some k → ∃ u, exec (.calDone x false) s = .next (State.settle u s.begin) ∧
          s.sameBut [.colour, .notices, .desk, .media] u ∧ u.out = [] ∧
          u.colour = { s.colour with sensor := .failed, held := none, timer := none } ∧
          u.notices = { s.notices with pending := s.notices.pending ||| 1#18 <<< 14 } ∧
          u.ticket h.ticket = some { k with verdict := .unverified } ∧
          (∀ y, y ≠ h.ticket → u.ticket y = s.ticket y) ∧
          u.media.placed = s.media.placed.filter fun a =>
            !(a.2.handed && a.2.kind == .patchRead && a.2.ticket == h.ticket)))) ∧
    (s.colour.timer ≠ none → s.colour.sensor = .calibrating → s.colour.settle = none →
      exec .sensorTimerExpiry s = exec (.calDone s.colour.exchange false) s) ∧
    (s.colour.settle = none → exec .settleTimerExpiry s = .next s.begin) ∧
    (s.colour.settle ≠ none →
      (s.colour.held = none ∨ (∃ h, s.colour.held = some h ∧ h.discard = true) →
        exec .settleTimerExpiry s =
          .next (State.settle (s.begin.withColour { s.colour with settle := none, held := none }) s.begin)) ∧
      (∀ h, s.colour.held = some h → h.discard = false →
        exec .settleTimerExpiry s = .next (State.settle ((s.begin.withColour { s.colour with
          settle := none, sensor := .calibrating, exchange := (s.colour.exchange + 1) % 256, timer := some 10000 }).withOut
            [.sensor (.calibrate ((s.colour.exchange + 1) % 256))]) s.begin)))) ∧
  (∀ (x : TicketId) (k : Ticket) (r : RefsetId) (s : State), s.ticket x = some k → k.refset = some r →
    (let targets := (s.refset r).targets
     let next := (s.colour.exchange + 1) % 256
     let h : HeldRead :=
       { ticket := x, set := r, patches := k.patches, retry := false, discard := false, targets := targets }
     let ended := fun (u : State) => u.out = s.out ∧ u.colour = s.colour ∧
       u.ticket x = some { k with verdict := .unverified } ∧ (∀ y, y ≠ x → u.ticket y = s.ticket y) ∧
       u.desk = { s.desk with tickets := u.desk.tickets } ∧ u.media = { s.media with stops := u.media.stops } ∧
       u.media.placed = s.media.placed.filter fun a => !(a.2.handed && a.2.kind == .patchRead && a.2.ticket == x)
     (targets = [] ∨ targets.length ≠ k.patches →
       s.sameBut [.desk, .media] (s.handRead x) ∧ ended (s.handRead x)) ∧
     (targets ≠ [] → targets.length = k.patches →
       (s.colour.settle ≠ none → s.handRead x = s.withColour { s.colour with held := some h }) ∧
       (s.colour.settle = none → s.colour.sensor = .failed →
         s.sameBut [.desk, .media, .notices] (s.handRead x) ∧ ended (s.handRead x) ∧
         (s.handRead x).notices = { s.notices with pending := s.notices.pending ||| 1#18 <<< 14 }) ∧
       (s.colour.settle = none → (s.colour.sensor = .uncalibrated ∨ s.colour.sensor = .idle ∧ s.colour.calCount = 50) →
         s.handRead x = (s.withColour { s.colour with
           held := some h, sensor := .calibrating, exchange := next, timer := some 10000 }).withOut
             (s.out ++ [.sensor (.calibrate next)])) ∧
       (s.colour.settle = none → s.colour.sensor = .idle → s.colour.calCount < 50 →
         s.handRead x = (s.withColour { s.colour with
           held := some h, sensor := .measuring, exchange := next, calCount := s.colour.calCount + 1,
           timer := some 3000 }).withOut (s.out ++ [.sensor (.measure next k.patches)])))))

/-- R56, R162 to R166, R168: how an attempt at a measurement ends: judged, with the check fee; tried again; or
UNVERIFIED after the second, with the next read calibrated; a discarded read writes nothing. -/
def Obligations.MeasurementEndsAsItsAnswerSays : Prop :=
  ∀ (h : HeldRead) (k : Ticket) (s : State), s.colour.settle = none → s.colour.sensor = .measuring →
    s.colour.held = some h → s.ticket h.ticket = some k →
    (let keptOut := s.media.placed.filter fun a =>
       !(a.2.handed && a.2.kind == .patchRead && a.2.ticket == h.ticket)
     (h.discard = true → ∀ row, exec (.result s.colour.exchange row) s = .next (State.settle (s.begin.withColour
       { s.colour with sensor := .idle, held := none, timer := none }) s.begin)) ∧
     (∀ row mx mn v, h.discard = false → row.length = h.patches →
       mx = (deltas row h.targets).foldl max 0 → mn = deltaMean (deltas row h.targets) →
       v = (if k.tmax < mx ∨ k.tmean < mn then .fail else if k.twarn < mn then .warn else .pass) →
       ∃ u, exec (.result s.colour.exchange row) s = .next (State.settle u s.begin) ∧
         s.sameBut [.colour, .notices, .desk, .media] u ∧ u.out = [] ∧
         u.colour = { s.colour with sensor := .idle, held := none, timer := none } ∧
         u.ticket h.ticket = some { k with verdict := v, deMax := some mx, deMean := some mn,
                                           fees := k.fees + s.costing.checkFee } ∧
         (∀ y, y ≠ h.ticket → u.ticket y = s.ticket y) ∧ u.media.placed = keptOut ∧
         u.notices = { s.notices with pending :=
           if v = .warn ∧ (k.state = .printing ∨ k.state = .travelling) then s.notices.pending ||| 1#18 <<< 4
           else s.notices.pending }) ∧
     (∀ row, h.discard = false → h.retry = false → row.length ≠ h.patches →
       (let again : State := (s.begin.withColour { s.colour with
          held := some { h with retry := true }, exchange := (s.colour.exchange + 1) % 256,
          calCount := min 50 (s.colour.calCount + 1), timer := some 3000 }).withOut
            [.sensor (.measure ((s.colour.exchange + 1) % 256) h.patches)]
        exec (.result s.colour.exchange row) s = .next (again.settle s.begin) ∧
        (s.colour.timer ≠ none → exec .sensorTimerExpiry s = .next (again.settle s.begin)) ∧
        (∀ code, exec (.sensorError s.colour.exchange code) s =
          .next (State.settle (again.withColour { again.colour with lastError := some code }) s.begin)))) ∧
     (∀ row, h.discard = false → h.retry = true → row.length ≠ h.patches →
       ∃ u : State, exec (.result s.colour.exchange row) s = .next (u.settle s.begin) ∧
         (s.colour.timer ≠ none → exec .sensorTimerExpiry s = .next (u.settle s.begin)) ∧
         s.sameBut [.colour, .notices, .desk, .media] u ∧ u.out = [] ∧
         u.colour = { s.colour with sensor := .idle, held := none, timer := none, calCount := 50 } ∧
         u.notices = { s.notices with pending := s.notices.pending ||| 1#18 <<< 14 } ∧
         u.ticket h.ticket = some { k with verdict := .unverified } ∧ u.media.placed = keptOut))

/-- R163, R164: ΔE is the integer square root of the summed squares and at most 37,558; the mean is the sum
over the count, rounded half up, and is never above the largest. -/
def Obligations.ColourDifferenceIsRoundedAsGiven : Prop :=
  (∀ n, n < 2 ^ 32 → isqrt n * isqrt n ≤ n ∧ n < (isqrt n + 1) * (isqrt n + 1)) ∧
  (∀ m r : Lab, m = clampLab m → r = clampLab r →
    (squaredDiff m r : Int) = (m.l - r.l) ^ 2 + (m.a - r.a) ^ 2 + (m.b - r.b) ^ 2 ∧ deltaE m r ≤ 37558) ∧
  (∀ m r : Lab, deltaE m r = deltaE (clampLab m) r) ∧
  (∀ ds : List Nat, ds ≠ [] →
    2 * ds.length * deltaMean ds ≤ 2 * ds.sum + ds.length ∧ 2 * ds.sum + ds.length < 2 * ds.length * (deltaMean ds + 1) ∧
    deltaMean ds ≤ deltaMax ds ∧ (∀ d ∈ ds, d ≤ deltaMax ds) ∧ deltaMax ds ∈ ds)

/-! ## The run -/

/-- R174, R176: the expiries of the idle timers: DOZE wants a PARK and stops the doze timer; CAPPED wants a CAP,
stops both and writes the feeding tanks back; a timer that is stopped does not expire. -/
def Obligations.IdleTimersParkAndCapTheHeads : Prop :=
  ∀ s : State,
    (let left : Option HeadSlot := match s.run.slot with | some ⟨_, false⟩ => none | x => x
     (s.run.dozeTimer = none → exec .dozeTimerExpiry s = .next s.begin) ∧
     (s.run.capTimer = none → exec .capTimerExpiry s = .next s.begin) ∧
     (s.run.dozeTimer ≠ none → exec .dozeTimerExpiry s = .next (State.settle (s.begin.withRun { s.run with
       state := .doze, dozeTimer := none, manual := none, wanted := some .park, slot := left,
       resumeWait := s.run.resumeWait || decide (s.run.state = .paused) }) s.begin)) ∧
     (s.run.capTimer ≠ none → ∃ u, exec .capTimerExpiry s = .next (State.settle u s.begin) ∧
       s.sameBut [.run, .supply, .tags] u ∧ u.out = [] ∧ u.supply.channels = s.supply.channels ∧
       u.run = { s.run with
         state := .capped, dozeTimer := none, capTimer := none, manual := none, wanted := some .cap, slot := left,
         resumeWait := s.run.resumeWait || decide (s.run.state = .paused) } ∧
       (∀ y r, s.tank y = .held .feeding r → (r.fill ≠ r.lastWritten ∨ r.stale = true) →
         u.tank y = .held .feeding { r with writeMark := r.fill } ∧ u.tags.waiting[y] ≠ none)))

/-- R181, R182, R184: PURGE, STOP(DRAIN) and RESUME by the run state, with their refusals. That a drain over an
empty path requests no eject is read from R122 (log entry 33). -/
def Obligations.RunRequestsFollowTheStateTable : Prop :=
  ∀ (tag : Nat) (s : State),
    (∀ set level, s.takesAtOnce (.purge set level) → (set = 0 ∨ 4096 ≤ set.toNat ∨ 2 ≤ level) →
      ∃ t, exec (.purge tag set level) s = .next t ∧ s.asked.answers t tag .range .empty) ∧
    (∀ set level lvl, s.takesAtOnce (.purge set level) → (level = 0 ∧ lvl = .light ∨ level = 1 ∧ lvl = .heavy) →
      set ≠ 0 → set.toNat < 4096 →
      (let open' := s.run.state = .idle ∨ s.run.state = .running ∨ s.run.state = .draining ∨ s.run.state = .paused
       let held := s.run.manual ≠ none ∨ ∃ sent, s.run.slot = some { op := .purge .manual, sent := sent }
       (¬ open' → ∃ t, exec (.purge tag set level) s = .next t ∧ s.asked.answers t tag .badState .empty) ∧
       (open' → held → ∃ t, exec (.purge tag set level) s = .next t ∧ s.asked.answers t tag .busy .empty) ∧
       (open' → ¬ held → ∃ t, exec (.purge tag set level) s = .next t ∧
         (State.settle (s.asked.withRun { s.asked.run with manual := some (set.setWidth 12, lvl) }) s.asked).answers t tag
           .ok .empty))) ∧
    (s.takesAtOnce .stopDrain →
      ((s.run.state = .engineWait ∨ s.run.state = .halted) →
        ∃ t, exec (.stopDrain tag) s = .next t ∧ s.asked.answers t tag .badState .empty) ∧
      ((s.run.state = .idle ∨ s.run.state = .doze ∨ s.run.state = .capped ∨ s.run.state = .paused ∨
          s.run.state = .draining) →
        ∃ t, exec (.stopDrain tag) s = .next t ∧ s.asked.answers t tag .ok .empty) ∧
      (s.run.state = .waking → ∃ t, exec (.stopDrain tag) s = .next t ∧
        (s.asked.withRun { s.asked.run with resumeWait := true }).answers t tag .ok .empty) ∧
      (s.run.state = .running → ∃ t u : State, exec (.stopDrain tag) s = .next t ∧
        (u.settle s.asked).answers t tag .ok .empty ∧ s.asked.sameBut [.run, .media] u ∧ u.out = [] ∧
        u.run = { s.asked.run with state := .draining, dozeTimer := none, capTimer := none } ∧
        ((s.desk.path ≠ [] ∧ ∀ x k, x ∈ s.desk.path → s.ticket x = some k → k.fed = k.l) →
          u.media = { s.media with eject := true }) ∧
        ((s.desk.path = [] ∨ ∃ x k, x ∈ s.desk.path ∧ s.ticket x = some k ∧ k.fed ≠ k.l) → u.media = s.media))) ∧
    (∀ cleared, s.takesAtOnce (.resume cleared) →
      ((s.run.state = .halted ∧ cleared = false ∨ s.run.state = .engineWait ∨ s.run.state = .idle ∨
          s.run.state = .running ∨ s.run.state = .draining ∨ s.run.state = .waking ∨
          ((s.run.state = .doze ∨ s.run.state = .capped) ∧ s.run.resumeWait = false)) →
        ∃ t, exec (.resume tag cleared) s = .next t ∧ s.asked.answers t tag .badState .empty) ∧
      (s.run.state = .halted → cleared = true → ∃ t u : State, exec (.resume tag cleared) s = .next t ∧
        (u.settle s.asked).answers t tag .ok .empty ∧ s.asked.sameBut [.run, .media, .supply, .tags] u ∧ u.out = [] ∧
        u.media = { s.media with pathEnd := (s.media.position : Int) - 750 } ∧ u.run.protocolError = false ∧
        u.run.haltCause = s.run.haltCause ∧
        (s.run.headsAtHalt = some .ready → u.run.state = .idle ∧
          u.run.dozeTimer = (if s.run.dozeLimit = 0 then none else some (s.run.dozeLimit * 1000)) ∧
          u.run.capTimer = (if s.run.capLimit = 0 then none else some (s.run.capLimit * 1000))) ∧
        (s.run.headsAtHalt = some .unpurged → u.run.state = .doze ∧ u.run.dozeTimer = none ∧
          u.run.capTimer = (if s.run.capLimit = 0 then none else some (s.run.capLimit * 1000))) ∧
        (s.run.headsAtHalt = some .covered → u.run.state = .capped)) ∧
      (s.run.state = .paused → ∃ t, exec (.resume tag cleared) s = .next t ∧
        (State.settle (State.startTest (s.asked.withRun { s.asked.run with
          state := .running, resumeWait := false, dozeTimer := none, capTimer := none })) s.asked).answers t tag .ok .empty) ∧
      ((s.run.state = .doze ∨ s.run.state = .capped) → s.run.resumeWait = true →
        ∃ t u : State, exec (.resume tag cleared) s = .next t ∧ (u.settle s.asked).answers t tag .ok .empty ∧
          s.asked.sameBut [.run] u ∧ u.out = [] ∧ u.run.state = .waking ∧ u.run.resumeWait = false ∧
          u.run.dozeTimer = none ∧ u.run.capTimer = none ∧ u.run.wanted = none ∧
          u.run.wake = some (if s.run.state = .capped ∧ s.run.wanted ≠ some .cap ∧
            s.run.slot ≠ some { op := .cap, sent := false } then (.heavy, .uncap) else (.light, .purge))))

/-! ## What every step keeps -/

/-- R15, R66, R117, R156, R186: the machine after reset has every law of this part: both buffers within their
bounds, the ranges of the records, the use counts, the feeding slots, the order of the stop list, the numbering
of the editions, and the media-still law of R142. -/
def Obligations.ResetStateKeepsTheLaws : Prop :=
  State.reset.link.sound ∧ State.reset.costing.sound ∧ State.reset.supply.sound ∧ State.reset.colour.sound ∧
    State.reset.useCountsRight ∧ State.reset.supply.oneFeeding ∧ State.reset.readsAtReadingSlots ∧
    State.reset.media.ordered ∧ State.reset.numberingSound ∧ State.reset.mediaStill

/-- R186, R187, R191: neither buffer of the command link ever holds more than 1024 bytes, and a whole frame in
receipt holds each byte clocked in, from every state in which that is so. -/
def Obligations.LinkBuffersNeverOverflow : Prop :=
  ∀ s t : State, s.link.sound → step s = .next t → t.link.sound

/-- R43, R64, R65, R79 (law 1), R117, R153, R157: every step keeps the residues below 10,000 tp, the drop volumes
and fees in their ranges, each fill within its tank's capacity, the levels of each channel, the calibration count
and the length of each reference set; and the stop list in strictly ascending order, with no empty entry. -/
def Obligations.RecordsStayInRange : Prop :=
  (∀ s t : State, s.costing.sound → s.supply.sound → s.colour.sound → step s = .next t →
    t.costing.sound ∧ t.supply.sound ∧ t.colour.sound) ∧
  (∀ s t : State, s.media.ordered → step s = .next t → t.media.ordered)

/-- R156: every step keeps each reference set's use count equal to the number of editions that name it, and a
set that an edition names holding targets. -/
def Obligations.UseCountsNumberTheEditions : Prop :=
  ∀ s t : State, s.useCountsRight → step s = .next t → t.useCountsRight

/-- R79, law 2, with R66 and R96: every step keeps it that a FED channel's one FEEDING slot is its feeding slot,
that a switch target is STANDBY and not being released, that a STARVED channel has no FEEDING slot, and that a
READ is pending or on the bus only at a READING slot. -/
def Obligations.OneSlotFeedsAChannel : Prop :=
  ∀ s t : State, s.supply.oneFeeding → s.readsAtReadingSlots → step s = .next t →
    t.supply.oneFeeding ∧ t.readsAtReadingSlots
end

