-- ==== Sys2Proof/Laws/State.lean ====
section
/-! SUPPORT. One lemma per field per update of the state, and of one record of a table: no later proof
unfolds a record update. -/

namespace Sys2Proof.Machine

open Sys2Proof

/-! ## Fields after the replacement of one block -/

@[simp] theorem withEditions_editions (s : State) (x : Vector (Option Edition) 64) : (s.withEditions x).editions = x := rfl
@[simp] theorem withEditions_desk (s : State) (x : Vector (Option Edition) 64) : (s.withEditions x).desk = s.desk := rfl
@[simp] theorem withEditions_costing (s : State) (x : Vector (Option Edition) 64) : (s.withEditions x).costing = s.costing := rfl
@[simp] theorem withEditions_supply (s : State) (x : Vector (Option Edition) 64) : (s.withEditions x).supply = s.supply := rfl
@[simp] theorem withEditions_tags (s : State) (x : Vector (Option Edition) 64) : (s.withEditions x).tags = s.tags := rfl
@[simp] theorem withEditions_media (s : State) (x : Vector (Option Edition) 64) : (s.withEditions x).media = s.media := rfl
@[simp] theorem withEditions_engine (s : State) (x : Vector (Option Edition) 64) : (s.withEditions x).engine = s.engine := rfl
@[simp] theorem withEditions_cutter (s : State) (x : Vector (Option Edition) 64) : (s.withEditions x).cutter = s.cutter := rfl
@[simp] theorem withEditions_colour (s : State) (x : Vector (Option Edition) 64) : (s.withEditions x).colour = s.colour := rfl
@[simp] theorem withEditions_run (s : State) (x : Vector (Option Edition) 64) : (s.withEditions x).run = s.run := rfl
@[simp] theorem withEditions_link (s : State) (x : Vector (Option Edition) 64) : (s.withEditions x).link = s.link := rfl
@[simp] theorem withEditions_notices (s : State) (x : Vector (Option Edition) 64) : (s.withEditions x).notices = s.notices := rfl
@[simp] theorem withEditions_date (s : State) (x : Vector (Option Edition) 64) : (s.withEditions x).date = s.date := rfl
@[simp] theorem withEditions_out (s : State) (x : Vector (Option Edition) 64) : (s.withEditions x).out = s.out := rfl
@[simp] theorem withEditions_pending (s : State) (x : Vector (Option Edition) 64) : (s.withEditions x).pending = s.pending := rfl
@[simp] theorem withDesk_editions (s : State) (x : Desk) : (s.withDesk x).editions = s.editions := rfl
@[simp] theorem withDesk_desk (s : State) (x : Desk) : (s.withDesk x).desk = x := rfl
@[simp] theorem withDesk_costing (s : State) (x : Desk) : (s.withDesk x).costing = s.costing := rfl
@[simp] theorem withDesk_supply (s : State) (x : Desk) : (s.withDesk x).supply = s.supply := rfl
@[simp] theorem withDesk_tags (s : State) (x : Desk) : (s.withDesk x).tags = s.tags := rfl
@[simp] theorem withDesk_media (s : State) (x : Desk) : (s.withDesk x).media = s.media := rfl
@[simp] theorem withDesk_engine (s : State) (x : Desk) : (s.withDesk x).engine = s.engine := rfl
@[simp] theorem withDesk_cutter (s : State) (x : Desk) : (s.withDesk x).cutter = s.cutter := rfl
@[simp] theorem withDesk_colour (s : State) (x : Desk) : (s.withDesk x).colour = s.colour := rfl
@[simp] theorem withDesk_run (s : State) (x : Desk) : (s.withDesk x).run = s.run := rfl
@[simp] theorem withDesk_link (s : State) (x : Desk) : (s.withDesk x).link = s.link := rfl
@[simp] theorem withDesk_notices (s : State) (x : Desk) : (s.withDesk x).notices = s.notices := rfl
@[simp] theorem withDesk_date (s : State) (x : Desk) : (s.withDesk x).date = s.date := rfl
@[simp] theorem withDesk_out (s : State) (x : Desk) : (s.withDesk x).out = s.out := rfl
@[simp] theorem withDesk_pending (s : State) (x : Desk) : (s.withDesk x).pending = s.pending := rfl
@[simp] theorem withCosting_editions (s : State) (x : Costing) : (s.withCosting x).editions = s.editions := rfl
@[simp] theorem withCosting_desk (s : State) (x : Costing) : (s.withCosting x).desk = s.desk := rfl
@[simp] theorem withCosting_costing (s : State) (x : Costing) : (s.withCosting x).costing = x := rfl
@[simp] theorem withCosting_supply (s : State) (x : Costing) : (s.withCosting x).supply = s.supply := rfl
@[simp] theorem withCosting_tags (s : State) (x : Costing) : (s.withCosting x).tags = s.tags := rfl
@[simp] theorem withCosting_media (s : State) (x : Costing) : (s.withCosting x).media = s.media := rfl
@[simp] theorem withCosting_engine (s : State) (x : Costing) : (s.withCosting x).engine = s.engine := rfl
@[simp] theorem withCosting_cutter (s : State) (x : Costing) : (s.withCosting x).cutter = s.cutter := rfl
@[simp] theorem withCosting_colour (s : State) (x : Costing) : (s.withCosting x).colour = s.colour := rfl
@[simp] theorem withCosting_run (s : State) (x : Costing) : (s.withCosting x).run = s.run := rfl
@[simp] theorem withCosting_link (s : State) (x : Costing) : (s.withCosting x).link = s.link := rfl
@[simp] theorem withCosting_notices (s : State) (x : Costing) : (s.withCosting x).notices = s.notices := rfl
@[simp] theorem withCosting_date (s : State) (x : Costing) : (s.withCosting x).date = s.date := rfl
@[simp] theorem withCosting_out (s : State) (x : Costing) : (s.withCosting x).out = s.out := rfl
@[simp] theorem withCosting_pending (s : State) (x : Costing) : (s.withCosting x).pending = s.pending := rfl
@[simp] theorem withSupply_editions (s : State) (x : Supply) : (s.withSupply x).editions = s.editions := rfl
@[simp] theorem withSupply_desk (s : State) (x : Supply) : (s.withSupply x).desk = s.desk := rfl
@[simp] theorem withSupply_costing (s : State) (x : Supply) : (s.withSupply x).costing = s.costing := rfl
@[simp] theorem withSupply_supply (s : State) (x : Supply) : (s.withSupply x).supply = x := rfl
@[simp] theorem withSupply_tags (s : State) (x : Supply) : (s.withSupply x).tags = s.tags := rfl
@[simp] theorem withSupply_media (s : State) (x : Supply) : (s.withSupply x).media = s.media := rfl
@[simp] theorem withSupply_engine (s : State) (x : Supply) : (s.withSupply x).engine = s.engine := rfl
@[simp] theorem withSupply_cutter (s : State) (x : Supply) : (s.withSupply x).cutter = s.cutter := rfl
@[simp] theorem withSupply_colour (s : State) (x : Supply) : (s.withSupply x).colour = s.colour := rfl
@[simp] theorem withSupply_run (s : State) (x : Supply) : (s.withSupply x).run = s.run := rfl
@[simp] theorem withSupply_link (s : State) (x : Supply) : (s.withSupply x).link = s.link := rfl
@[simp] theorem withSupply_notices (s : State) (x : Supply) : (s.withSupply x).notices = s.notices := rfl
@[simp] theorem withSupply_date (s : State) (x : Supply) : (s.withSupply x).date = s.date := rfl
@[simp] theorem withSupply_out (s : State) (x : Supply) : (s.withSupply x).out = s.out := rfl
@[simp] theorem withSupply_pending (s : State) (x : Supply) : (s.withSupply x).pending = s.pending := rfl
@[simp] theorem withTags_editions (s : State) (x : TagBus) : (s.withTags x).editions = s.editions := rfl
@[simp] theorem withTags_desk (s : State) (x : TagBus) : (s.withTags x).desk = s.desk := rfl
@[simp] theorem withTags_costing (s : State) (x : TagBus) : (s.withTags x).costing = s.costing := rfl
@[simp] theorem withTags_supply (s : State) (x : TagBus) : (s.withTags x).supply = s.supply := rfl
@[simp] theorem withTags_tags (s : State) (x : TagBus) : (s.withTags x).tags = x := rfl
@[simp] theorem withTags_media (s : State) (x : TagBus) : (s.withTags x).media = s.media := rfl
@[simp] theorem withTags_engine (s : State) (x : TagBus) : (s.withTags x).engine = s.engine := rfl
@[simp] theorem withTags_cutter (s : State) (x : TagBus) : (s.withTags x).cutter = s.cutter := rfl
@[simp] theorem withTags_colour (s : State) (x : TagBus) : (s.withTags x).colour = s.colour := rfl
@[simp] theorem withTags_run (s : State) (x : TagBus) : (s.withTags x).run = s.run := rfl
@[simp] theorem withTags_link (s : State) (x : TagBus) : (s.withTags x).link = s.link := rfl
@[simp] theorem withTags_notices (s : State) (x : TagBus) : (s.withTags x).notices = s.notices := rfl
@[simp] theorem withTags_date (s : State) (x : TagBus) : (s.withTags x).date = s.date := rfl
@[simp] theorem withTags_out (s : State) (x : TagBus) : (s.withTags x).out = s.out := rfl
@[simp] theorem withTags_pending (s : State) (x : TagBus) : (s.withTags x).pending = s.pending := rfl
@[simp] theorem withMedia_editions (s : State) (x : Media) : (s.withMedia x).editions = s.editions := rfl
@[simp] theorem withMedia_desk (s : State) (x : Media) : (s.withMedia x).desk = s.desk := rfl
@[simp] theorem withMedia_costing (s : State) (x : Media) : (s.withMedia x).costing = s.costing := rfl
@[simp] theorem withMedia_supply (s : State) (x : Media) : (s.withMedia x).supply = s.supply := rfl
@[simp] theorem withMedia_tags (s : State) (x : Media) : (s.withMedia x).tags = s.tags := rfl
@[simp] theorem withMedia_media (s : State) (x : Media) : (s.withMedia x).media = x := rfl
@[simp] theorem withMedia_engine (s : State) (x : Media) : (s.withMedia x).engine = s.engine := rfl
@[simp] theorem withMedia_cutter (s : State) (x : Media) : (s.withMedia x).cutter = s.cutter := rfl
@[simp] theorem withMedia_colour (s : State) (x : Media) : (s.withMedia x).colour = s.colour := rfl
@[simp] theorem withMedia_run (s : State) (x : Media) : (s.withMedia x).run = s.run := rfl
@[simp] theorem withMedia_link (s : State) (x : Media) : (s.withMedia x).link = s.link := rfl
@[simp] theorem withMedia_notices (s : State) (x : Media) : (s.withMedia x).notices = s.notices := rfl
@[simp] theorem withMedia_date (s : State) (x : Media) : (s.withMedia x).date = s.date := rfl
@[simp] theorem withMedia_out (s : State) (x : Media) : (s.withMedia x).out = s.out := rfl
@[simp] theorem withMedia_pending (s : State) (x : Media) : (s.withMedia x).pending = s.pending := rfl
@[simp] theorem withEngine_editions (s : State) (x : EngineLink) : (s.withEngine x).editions = s.editions := rfl
@[simp] theorem withEngine_desk (s : State) (x : EngineLink) : (s.withEngine x).desk = s.desk := rfl
@[simp] theorem withEngine_costing (s : State) (x : EngineLink) : (s.withEngine x).costing = s.costing := rfl
@[simp] theorem withEngine_supply (s : State) (x : EngineLink) : (s.withEngine x).supply = s.supply := rfl
@[simp] theorem withEngine_tags (s : State) (x : EngineLink) : (s.withEngine x).tags = s.tags := rfl
@[simp] theorem withEngine_media (s : State) (x : EngineLink) : (s.withEngine x).media = s.media := rfl
@[simp] theorem withEngine_engine (s : State) (x : EngineLink) : (s.withEngine x).engine = x := rfl
@[simp] theorem withEngine_cutter (s : State) (x : EngineLink) : (s.withEngine x).cutter = s.cutter := rfl
@[simp] theorem withEngine_colour (s : State) (x : EngineLink) : (s.withEngine x).colour = s.colour := rfl
@[simp] theorem withEngine_run (s : State) (x : EngineLink) : (s.withEngine x).run = s.run := rfl
@[simp] theorem withEngine_link (s : State) (x : EngineLink) : (s.withEngine x).link = s.link := rfl
@[simp] theorem withEngine_notices (s : State) (x : EngineLink) : (s.withEngine x).notices = s.notices := rfl
@[simp] theorem withEngine_date (s : State) (x : EngineLink) : (s.withEngine x).date = s.date := rfl
@[simp] theorem withEngine_out (s : State) (x : EngineLink) : (s.withEngine x).out = s.out := rfl
@[simp] theorem withEngine_pending (s : State) (x : EngineLink) : (s.withEngine x).pending = s.pending := rfl
@[simp] theorem withCutter_editions (s : State) (x : Cutter) : (s.withCutter x).editions = s.editions := rfl
@[simp] theorem withCutter_desk (s : State) (x : Cutter) : (s.withCutter x).desk = s.desk := rfl
@[simp] theorem withCutter_costing (s : State) (x : Cutter) : (s.withCutter x).costing = s.costing := rfl
@[simp] theorem withCutter_supply (s : State) (x : Cutter) : (s.withCutter x).supply = s.supply := rfl
@[simp] theorem withCutter_tags (s : State) (x : Cutter) : (s.withCutter x).tags = s.tags := rfl
@[simp] theorem withCutter_media (s : State) (x : Cutter) : (s.withCutter x).media = s.media := rfl
@[simp] theorem withCutter_engine (s : State) (x : Cutter) : (s.withCutter x).engine = s.engine := rfl
@[simp] theorem withCutter_cutter (s : State) (x : Cutter) : (s.withCutter x).cutter = x := rfl
@[simp] theorem withCutter_colour (s : State) (x : Cutter) : (s.withCutter x).colour = s.colour := rfl
@[simp] theorem withCutter_run (s : State) (x : Cutter) : (s.withCutter x).run = s.run := rfl
@[simp] theorem withCutter_link (s : State) (x : Cutter) : (s.withCutter x).link = s.link := rfl
@[simp] theorem withCutter_notices (s : State) (x : Cutter) : (s.withCutter x).notices = s.notices := rfl
@[simp] theorem withCutter_date (s : State) (x : Cutter) : (s.withCutter x).date = s.date := rfl
@[simp] theorem withCutter_out (s : State) (x : Cutter) : (s.withCutter x).out = s.out := rfl
@[simp] theorem withCutter_pending (s : State) (x : Cutter) : (s.withCutter x).pending = s.pending := rfl
@[simp] theorem withColour_editions (s : State) (x : Colour) : (s.withColour x).editions = s.editions := rfl
@[simp] theorem withColour_desk (s : State) (x : Colour) : (s.withColour x).desk = s.desk := rfl
@[simp] theorem withColour_costing (s : State) (x : Colour) : (s.withColour x).costing = s.costing := rfl
@[simp] theorem withColour_supply (s : State) (x : Colour) : (s.withColour x).supply = s.supply := rfl
@[simp] theorem withColour_tags (s : State) (x : Colour) : (s.withColour x).tags = s.tags := rfl
@[simp] theorem withColour_media (s : State) (x : Colour) : (s.withColour x).media = s.media := rfl
@[simp] theorem withColour_engine (s : State) (x : Colour) : (s.withColour x).engine = s.engine := rfl
@[simp] theorem withColour_cutter (s : State) (x : Colour) : (s.withColour x).cutter = s.cutter := rfl
@[simp] theorem withColour_colour (s : State) (x : Colour) : (s.withColour x).colour = x := rfl
@[simp] theorem withColour_run (s : State) (x : Colour) : (s.withColour x).run = s.run := rfl
@[simp] theorem withColour_link (s : State) (x : Colour) : (s.withColour x).link = s.link := rfl
@[simp] theorem withColour_notices (s : State) (x : Colour) : (s.withColour x).notices = s.notices := rfl
@[simp] theorem withColour_date (s : State) (x : Colour) : (s.withColour x).date = s.date := rfl
@[simp] theorem withColour_out (s : State) (x : Colour) : (s.withColour x).out = s.out := rfl
@[simp] theorem withColour_pending (s : State) (x : Colour) : (s.withColour x).pending = s.pending := rfl
@[simp] theorem withRun_editions (s : State) (x : RunRecord) : (s.withRun x).editions = s.editions := rfl
@[simp] theorem withRun_desk (s : State) (x : RunRecord) : (s.withRun x).desk = s.desk := rfl
@[simp] theorem withRun_costing (s : State) (x : RunRecord) : (s.withRun x).costing = s.costing := rfl
@[simp] theorem withRun_supply (s : State) (x : RunRecord) : (s.withRun x).supply = s.supply := rfl
@[simp] theorem withRun_tags (s : State) (x : RunRecord) : (s.withRun x).tags = s.tags := rfl
@[simp] theorem withRun_media (s : State) (x : RunRecord) : (s.withRun x).media = s.media := rfl
@[simp] theorem withRun_engine (s : State) (x : RunRecord) : (s.withRun x).engine = s.engine := rfl
@[simp] theorem withRun_cutter (s : State) (x : RunRecord) : (s.withRun x).cutter = s.cutter := rfl
@[simp] theorem withRun_colour (s : State) (x : RunRecord) : (s.withRun x).colour = s.colour := rfl
@[simp] theorem withRun_run (s : State) (x : RunRecord) : (s.withRun x).run = x := rfl
@[simp] theorem withRun_link (s : State) (x : RunRecord) : (s.withRun x).link = s.link := rfl
@[simp] theorem withRun_notices (s : State) (x : RunRecord) : (s.withRun x).notices = s.notices := rfl
@[simp] theorem withRun_date (s : State) (x : RunRecord) : (s.withRun x).date = s.date := rfl
@[simp] theorem withRun_out (s : State) (x : RunRecord) : (s.withRun x).out = s.out := rfl
@[simp] theorem withRun_pending (s : State) (x : RunRecord) : (s.withRun x).pending = s.pending := rfl
@[simp] theorem withLink_editions (s : State) (x : Link) : (s.withLink x).editions = s.editions := rfl
@[simp] theorem withLink_desk (s : State) (x : Link) : (s.withLink x).desk = s.desk := rfl
@[simp] theorem withLink_costing (s : State) (x : Link) : (s.withLink x).costing = s.costing := rfl
@[simp] theorem withLink_supply (s : State) (x : Link) : (s.withLink x).supply = s.supply := rfl
@[simp] theorem withLink_tags (s : State) (x : Link) : (s.withLink x).tags = s.tags := rfl
@[simp] theorem withLink_media (s : State) (x : Link) : (s.withLink x).media = s.media := rfl
@[simp] theorem withLink_engine (s : State) (x : Link) : (s.withLink x).engine = s.engine := rfl
@[simp] theorem withLink_cutter (s : State) (x : Link) : (s.withLink x).cutter = s.cutter := rfl
@[simp] theorem withLink_colour (s : State) (x : Link) : (s.withLink x).colour = s.colour := rfl
@[simp] theorem withLink_run (s : State) (x : Link) : (s.withLink x).run = s.run := rfl
@[simp] theorem withLink_link (s : State) (x : Link) : (s.withLink x).link = x := rfl
@[simp] theorem withLink_notices (s : State) (x : Link) : (s.withLink x).notices = s.notices := rfl
@[simp] theorem withLink_date (s : State) (x : Link) : (s.withLink x).date = s.date := rfl
@[simp] theorem withLink_out (s : State) (x : Link) : (s.withLink x).out = s.out := rfl
@[simp] theorem withLink_pending (s : State) (x : Link) : (s.withLink x).pending = s.pending := rfl
@[simp] theorem withNotices_editions (s : State) (x : Notices) : (s.withNotices x).editions = s.editions := rfl
@[simp] theorem withNotices_desk (s : State) (x : Notices) : (s.withNotices x).desk = s.desk := rfl
@[simp] theorem withNotices_costing (s : State) (x : Notices) : (s.withNotices x).costing = s.costing := rfl
@[simp] theorem withNotices_supply (s : State) (x : Notices) : (s.withNotices x).supply = s.supply := rfl
@[simp] theorem withNotices_tags (s : State) (x : Notices) : (s.withNotices x).tags = s.tags := rfl
@[simp] theorem withNotices_media (s : State) (x : Notices) : (s.withNotices x).media = s.media := rfl
@[simp] theorem withNotices_engine (s : State) (x : Notices) : (s.withNotices x).engine = s.engine := rfl
@[simp] theorem withNotices_cutter (s : State) (x : Notices) : (s.withNotices x).cutter = s.cutter := rfl
@[simp] theorem withNotices_colour (s : State) (x : Notices) : (s.withNotices x).colour = s.colour := rfl
@[simp] theorem withNotices_run (s : State) (x : Notices) : (s.withNotices x).run = s.run := rfl
@[simp] theorem withNotices_link (s : State) (x : Notices) : (s.withNotices x).link = s.link := rfl
@[simp] theorem withNotices_notices (s : State) (x : Notices) : (s.withNotices x).notices = x := rfl
@[simp] theorem withNotices_date (s : State) (x : Notices) : (s.withNotices x).date = s.date := rfl
@[simp] theorem withNotices_out (s : State) (x : Notices) : (s.withNotices x).out = s.out := rfl
@[simp] theorem withNotices_pending (s : State) (x : Notices) : (s.withNotices x).pending = s.pending := rfl
@[simp] theorem withDate_editions (s : State) (x : Nat) : (s.withDate x).editions = s.editions := rfl
@[simp] theorem withDate_desk (s : State) (x : Nat) : (s.withDate x).desk = s.desk := rfl
@[simp] theorem withDate_costing (s : State) (x : Nat) : (s.withDate x).costing = s.costing := rfl
@[simp] theorem withDate_supply (s : State) (x : Nat) : (s.withDate x).supply = s.supply := rfl
@[simp] theorem withDate_tags (s : State) (x : Nat) : (s.withDate x).tags = s.tags := rfl
@[simp] theorem withDate_media (s : State) (x : Nat) : (s.withDate x).media = s.media := rfl
@[simp] theorem withDate_engine (s : State) (x : Nat) : (s.withDate x).engine = s.engine := rfl
@[simp] theorem withDate_cutter (s : State) (x : Nat) : (s.withDate x).cutter = s.cutter := rfl
@[simp] theorem withDate_colour (s : State) (x : Nat) : (s.withDate x).colour = s.colour := rfl
@[simp] theorem withDate_run (s : State) (x : Nat) : (s.withDate x).run = s.run := rfl
@[simp] theorem withDate_link (s : State) (x : Nat) : (s.withDate x).link = s.link := rfl
@[simp] theorem withDate_notices (s : State) (x : Nat) : (s.withDate x).notices = s.notices := rfl
@[simp] theorem withDate_date (s : State) (x : Nat) : (s.withDate x).date = x := rfl
@[simp] theorem withDate_out (s : State) (x : Nat) : (s.withDate x).out = s.out := rfl
@[simp] theorem withDate_pending (s : State) (x : Nat) : (s.withDate x).pending = s.pending := rfl
@[simp] theorem withOut_editions (s : State) (x : List Output) : (s.withOut x).editions = s.editions := rfl
@[simp] theorem withOut_desk (s : State) (x : List Output) : (s.withOut x).desk = s.desk := rfl
@[simp] theorem withOut_costing (s : State) (x : List Output) : (s.withOut x).costing = s.costing := rfl
@[simp] theorem withOut_supply (s : State) (x : List Output) : (s.withOut x).supply = s.supply := rfl
@[simp] theorem withOut_tags (s : State) (x : List Output) : (s.withOut x).tags = s.tags := rfl
@[simp] theorem withOut_media (s : State) (x : List Output) : (s.withOut x).media = s.media := rfl
@[simp] theorem withOut_engine (s : State) (x : List Output) : (s.withOut x).engine = s.engine := rfl
@[simp] theorem withOut_cutter (s : State) (x : List Output) : (s.withOut x).cutter = s.cutter := rfl
@[simp] theorem withOut_colour (s : State) (x : List Output) : (s.withOut x).colour = s.colour := rfl
@[simp] theorem withOut_run (s : State) (x : List Output) : (s.withOut x).run = s.run := rfl
@[simp] theorem withOut_link (s : State) (x : List Output) : (s.withOut x).link = s.link := rfl
@[simp] theorem withOut_notices (s : State) (x : List Output) : (s.withOut x).notices = s.notices := rfl
@[simp] theorem withOut_date (s : State) (x : List Output) : (s.withOut x).date = s.date := rfl
@[simp] theorem withOut_out (s : State) (x : List Output) : (s.withOut x).out = x := rfl
@[simp] theorem withOut_pending (s : State) (x : List Output) : (s.withOut x).pending = s.pending := rfl
@[simp] theorem withPending_editions (s : State) (x : List Instr) : (s.withPending x).editions = s.editions := rfl
@[simp] theorem withPending_desk (s : State) (x : List Instr) : (s.withPending x).desk = s.desk := rfl
@[simp] theorem withPending_costing (s : State) (x : List Instr) : (s.withPending x).costing = s.costing := rfl
@[simp] theorem withPending_supply (s : State) (x : List Instr) : (s.withPending x).supply = s.supply := rfl
@[simp] theorem withPending_tags (s : State) (x : List Instr) : (s.withPending x).tags = s.tags := rfl
@[simp] theorem withPending_media (s : State) (x : List Instr) : (s.withPending x).media = s.media := rfl
@[simp] theorem withPending_engine (s : State) (x : List Instr) : (s.withPending x).engine = s.engine := rfl
@[simp] theorem withPending_cutter (s : State) (x : List Instr) : (s.withPending x).cutter = s.cutter := rfl
@[simp] theorem withPending_colour (s : State) (x : List Instr) : (s.withPending x).colour = s.colour := rfl
@[simp] theorem withPending_run (s : State) (x : List Instr) : (s.withPending x).run = s.run := rfl
@[simp] theorem withPending_link (s : State) (x : List Instr) : (s.withPending x).link = s.link := rfl
@[simp] theorem withPending_notices (s : State) (x : List Instr) : (s.withPending x).notices = s.notices := rfl
@[simp] theorem withPending_date (s : State) (x : List Instr) : (s.withPending x).date = s.date := rfl
@[simp] theorem withPending_out (s : State) (x : List Instr) : (s.withPending x).out = s.out := rfl
@[simp] theorem withPending_pending (s : State) (x : List Instr) : (s.withPending x).pending = x := rfl

/-! ## Records after the replacement of another block -/

@[simp] theorem withEditions_ticket (s : State) (x : Vector (Option Edition) 64) (t : TicketId) : (s.withEditions x).ticket t = s.ticket t := rfl
@[simp] theorem withEditions_channel (s : State) (x : Vector (Option Edition) 64) (c : ChannelId) : (s.withEditions x).channel c = s.channel c := rfl
@[simp] theorem withEditions_tank (s : State) (x : Vector (Option Edition) 64) (t : TankId) : (s.withEditions x).tank t = s.tank t := rfl
@[simp] theorem withEditions_roll (s : State) (x : Vector (Option Edition) 64) (r : RollId) : (s.withEditions x).roll r = s.roll r := rfl
@[simp] theorem withEditions_refset (s : State) (x : Vector (Option Edition) 64) (r : RefsetId) : (s.withEditions x).refset r = s.refset r := rfl
@[simp] theorem withEditions_activeRoll (s : State) (x : Vector (Option Edition) 64) : (s.withEditions x).activeRoll = s.activeRoll := rfl
@[simp] theorem withDesk_edition (s : State) (x : Desk) (i : EditionId) : (s.withDesk x).edition i = s.edition i := rfl
@[simp] theorem withDesk_channel (s : State) (x : Desk) (c : ChannelId) : (s.withDesk x).channel c = s.channel c := rfl
@[simp] theorem withDesk_tank (s : State) (x : Desk) (t : TankId) : (s.withDesk x).tank t = s.tank t := rfl
@[simp] theorem withDesk_roll (s : State) (x : Desk) (r : RollId) : (s.withDesk x).roll r = s.roll r := rfl
@[simp] theorem withDesk_refset (s : State) (x : Desk) (r : RefsetId) : (s.withDesk x).refset r = s.refset r := rfl
@[simp] theorem withDesk_activeRoll (s : State) (x : Desk) : (s.withDesk x).activeRoll = s.activeRoll := rfl
@[simp] theorem withCosting_edition (s : State) (x : Costing) (i : EditionId) : (s.withCosting x).edition i = s.edition i := rfl
@[simp] theorem withCosting_ticket (s : State) (x : Costing) (t : TicketId) : (s.withCosting x).ticket t = s.ticket t := rfl
@[simp] theorem withCosting_channel (s : State) (x : Costing) (c : ChannelId) : (s.withCosting x).channel c = s.channel c := rfl
@[simp] theorem withCosting_tank (s : State) (x : Costing) (t : TankId) : (s.withCosting x).tank t = s.tank t := rfl
@[simp] theorem withCosting_roll (s : State) (x : Costing) (r : RollId) : (s.withCosting x).roll r = s.roll r := rfl
@[simp] theorem withCosting_refset (s : State) (x : Costing) (r : RefsetId) : (s.withCosting x).refset r = s.refset r := rfl
@[simp] theorem withCosting_activeRoll (s : State) (x : Costing) : (s.withCosting x).activeRoll = s.activeRoll := rfl
@[simp] theorem withSupply_edition (s : State) (x : Supply) (i : EditionId) : (s.withSupply x).edition i = s.edition i := rfl
@[simp] theorem withSupply_ticket (s : State) (x : Supply) (t : TicketId) : (s.withSupply x).ticket t = s.ticket t := rfl
@[simp] theorem withSupply_roll (s : State) (x : Supply) (r : RollId) : (s.withSupply x).roll r = s.roll r := rfl
@[simp] theorem withSupply_refset (s : State) (x : Supply) (r : RefsetId) : (s.withSupply x).refset r = s.refset r := rfl
@[simp] theorem withSupply_activeRoll (s : State) (x : Supply) : (s.withSupply x).activeRoll = s.activeRoll := rfl
@[simp] theorem withTags_edition (s : State) (x : TagBus) (i : EditionId) : (s.withTags x).edition i = s.edition i := rfl
@[simp] theorem withTags_ticket (s : State) (x : TagBus) (t : TicketId) : (s.withTags x).ticket t = s.ticket t := rfl
@[simp] theorem withTags_channel (s : State) (x : TagBus) (c : ChannelId) : (s.withTags x).channel c = s.channel c := rfl
@[simp] theorem withTags_tank (s : State) (x : TagBus) (t : TankId) : (s.withTags x).tank t = s.tank t := rfl
@[simp] theorem withTags_roll (s : State) (x : TagBus) (r : RollId) : (s.withTags x).roll r = s.roll r := rfl
@[simp] theorem withTags_refset (s : State) (x : TagBus) (r : RefsetId) : (s.withTags x).refset r = s.refset r := rfl
@[simp] theorem withTags_activeRoll (s : State) (x : TagBus) : (s.withTags x).activeRoll = s.activeRoll := rfl
@[simp] theorem withMedia_edition (s : State) (x : Media) (i : EditionId) : (s.withMedia x).edition i = s.edition i := rfl
@[simp] theorem withMedia_ticket (s : State) (x : Media) (t : TicketId) : (s.withMedia x).ticket t = s.ticket t := rfl
@[simp] theorem withMedia_channel (s : State) (x : Media) (c : ChannelId) : (s.withMedia x).channel c = s.channel c := rfl
@[simp] theorem withMedia_tank (s : State) (x : Media) (t : TankId) : (s.withMedia x).tank t = s.tank t := rfl
@[simp] theorem withMedia_refset (s : State) (x : Media) (r : RefsetId) : (s.withMedia x).refset r = s.refset r := rfl
@[simp] theorem withEngine_edition (s : State) (x : EngineLink) (i : EditionId) : (s.withEngine x).edition i = s.edition i := rfl
@[simp] theorem withEngine_ticket (s : State) (x : EngineLink) (t : TicketId) : (s.withEngine x).ticket t = s.ticket t := rfl
@[simp] theorem withEngine_channel (s : State) (x : EngineLink) (c : ChannelId) : (s.withEngine x).channel c = s.channel c := rfl
@[simp] theorem withEngine_tank (s : State) (x : EngineLink) (t : TankId) : (s.withEngine x).tank t = s.tank t := rfl
@[simp] theorem withEngine_roll (s : State) (x : EngineLink) (r : RollId) : (s.withEngine x).roll r = s.roll r := rfl
@[simp] theorem withEngine_refset (s : State) (x : EngineLink) (r : RefsetId) : (s.withEngine x).refset r = s.refset r := rfl
@[simp] theorem withEngine_activeRoll (s : State) (x : EngineLink) : (s.withEngine x).activeRoll = s.activeRoll := rfl
@[simp] theorem withCutter_edition (s : State) (x : Cutter) (i : EditionId) : (s.withCutter x).edition i = s.edition i := rfl
@[simp] theorem withCutter_ticket (s : State) (x : Cutter) (t : TicketId) : (s.withCutter x).ticket t = s.ticket t := rfl
@[simp] theorem withCutter_channel (s : State) (x : Cutter) (c : ChannelId) : (s.withCutter x).channel c = s.channel c := rfl
@[simp] theorem withCutter_tank (s : State) (x : Cutter) (t : TankId) : (s.withCutter x).tank t = s.tank t := rfl
@[simp] theorem withCutter_roll (s : State) (x : Cutter) (r : RollId) : (s.withCutter x).roll r = s.roll r := rfl
@[simp] theorem withCutter_refset (s : State) (x : Cutter) (r : RefsetId) : (s.withCutter x).refset r = s.refset r := rfl
@[simp] theorem withCutter_activeRoll (s : State) (x : Cutter) : (s.withCutter x).activeRoll = s.activeRoll := rfl
@[simp] theorem withColour_edition (s : State) (x : Colour) (i : EditionId) : (s.withColour x).edition i = s.edition i := rfl
@[simp] theorem withColour_ticket (s : State) (x : Colour) (t : TicketId) : (s.withColour x).ticket t = s.ticket t := rfl
@[simp] theorem withColour_channel (s : State) (x : Colour) (c : ChannelId) : (s.withColour x).channel c = s.channel c := rfl
@[simp] theorem withColour_tank (s : State) (x : Colour) (t : TankId) : (s.withColour x).tank t = s.tank t := rfl
@[simp] theorem withColour_roll (s : State) (x : Colour) (r : RollId) : (s.withColour x).roll r = s.roll r := rfl
@[simp] theorem withColour_activeRoll (s : State) (x : Colour) : (s.withColour x).activeRoll = s.activeRoll := rfl
@[simp] theorem withRun_edition (s : State) (x : RunRecord) (i : EditionId) : (s.withRun x).edition i = s.edition i := rfl
@[simp] theorem withRun_ticket (s : State) (x : RunRecord) (t : TicketId) : (s.withRun x).ticket t = s.ticket t := rfl
@[simp] theorem withRun_channel (s : State) (x : RunRecord) (c : ChannelId) : (s.withRun x).channel c = s.channel c := rfl
@[simp] theorem withRun_tank (s : State) (x : RunRecord) (t : TankId) : (s.withRun x).tank t = s.tank t := rfl
@[simp] theorem withRun_roll (s : State) (x : RunRecord) (r : RollId) : (s.withRun x).roll r = s.roll r := rfl
@[simp] theorem withRun_refset (s : State) (x : RunRecord) (r : RefsetId) : (s.withRun x).refset r = s.refset r := rfl
@[simp] theorem withRun_activeRoll (s : State) (x : RunRecord) : (s.withRun x).activeRoll = s.activeRoll := rfl
@[simp] theorem withLink_edition (s : State) (x : Link) (i : EditionId) : (s.withLink x).edition i = s.edition i := rfl
@[simp] theorem withLink_ticket (s : State) (x : Link) (t : TicketId) : (s.withLink x).ticket t = s.ticket t := rfl
@[simp] theorem withLink_channel (s : State) (x : Link) (c : ChannelId) : (s.withLink x).channel c = s.channel c := rfl
@[simp] theorem withLink_tank (s : State) (x : Link) (t : TankId) : (s.withLink x).tank t = s.tank t := rfl
@[simp] theorem withLink_roll (s : State) (x : Link) (r : RollId) : (s.withLink x).roll r = s.roll r := rfl
@[simp] theorem withLink_refset (s : State) (x : Link) (r : RefsetId) : (s.withLink x).refset r = s.refset r := rfl
@[simp] theorem withLink_activeRoll (s : State) (x : Link) : (s.withLink x).activeRoll = s.activeRoll := rfl
@[simp] theorem withNotices_edition (s : State) (x : Notices) (i : EditionId) : (s.withNotices x).edition i = s.edition i := rfl
@[simp] theorem withNotices_ticket (s : State) (x : Notices) (t : TicketId) : (s.withNotices x).ticket t = s.ticket t := rfl
@[simp] theorem withNotices_channel (s : State) (x : Notices) (c : ChannelId) : (s.withNotices x).channel c = s.channel c := rfl
@[simp] theorem withNotices_tank (s : State) (x : Notices) (t : TankId) : (s.withNotices x).tank t = s.tank t := rfl
@[simp] theorem withNotices_roll (s : State) (x : Notices) (r : RollId) : (s.withNotices x).roll r = s.roll r := rfl
@[simp] theorem withNotices_refset (s : State) (x : Notices) (r : RefsetId) : (s.withNotices x).refset r = s.refset r := rfl
@[simp] theorem withNotices_activeRoll (s : State) (x : Notices) : (s.withNotices x).activeRoll = s.activeRoll := rfl
@[simp] theorem withDate_edition (s : State) (x : Nat) (i : EditionId) : (s.withDate x).edition i = s.edition i := rfl
@[simp] theorem withDate_ticket (s : State) (x : Nat) (t : TicketId) : (s.withDate x).ticket t = s.ticket t := rfl
@[simp] theorem withDate_channel (s : State) (x : Nat) (c : ChannelId) : (s.withDate x).channel c = s.channel c := rfl
@[simp] theorem withDate_tank (s : State) (x : Nat) (t : TankId) : (s.withDate x).tank t = s.tank t := rfl
@[simp] theorem withDate_roll (s : State) (x : Nat) (r : RollId) : (s.withDate x).roll r = s.roll r := rfl
@[simp] theorem withDate_refset (s : State) (x : Nat) (r : RefsetId) : (s.withDate x).refset r = s.refset r := rfl
@[simp] theorem withDate_activeRoll (s : State) (x : Nat) : (s.withDate x).activeRoll = s.activeRoll := rfl
@[simp] theorem withOut_edition (s : State) (x : List Output) (i : EditionId) : (s.withOut x).edition i = s.edition i := rfl
@[simp] theorem withOut_ticket (s : State) (x : List Output) (t : TicketId) : (s.withOut x).ticket t = s.ticket t := rfl
@[simp] theorem withOut_channel (s : State) (x : List Output) (c : ChannelId) : (s.withOut x).channel c = s.channel c := rfl
@[simp] theorem withOut_tank (s : State) (x : List Output) (t : TankId) : (s.withOut x).tank t = s.tank t := rfl
@[simp] theorem withOut_roll (s : State) (x : List Output) (r : RollId) : (s.withOut x).roll r = s.roll r := rfl
@[simp] theorem withOut_refset (s : State) (x : List Output) (r : RefsetId) : (s.withOut x).refset r = s.refset r := rfl
@[simp] theorem withOut_activeRoll (s : State) (x : List Output) : (s.withOut x).activeRoll = s.activeRoll := rfl
@[simp] theorem withPending_edition (s : State) (x : List Instr) (i : EditionId) : (s.withPending x).edition i = s.edition i := rfl
@[simp] theorem withPending_ticket (s : State) (x : List Instr) (t : TicketId) : (s.withPending x).ticket t = s.ticket t := rfl
@[simp] theorem withPending_channel (s : State) (x : List Instr) (c : ChannelId) : (s.withPending x).channel c = s.channel c := rfl
@[simp] theorem withPending_tank (s : State) (x : List Instr) (t : TankId) : (s.withPending x).tank t = s.tank t := rfl
@[simp] theorem withPending_roll (s : State) (x : List Instr) (r : RollId) : (s.withPending x).roll r = s.roll r := rfl
@[simp] theorem withPending_refset (s : State) (x : List Instr) (r : RefsetId) : (s.withPending x).refset r = s.refset r := rfl
@[simp] theorem withPending_activeRoll (s : State) (x : List Instr) : (s.withPending x).activeRoll = s.activeRoll := rfl

/-! ## One record of a table -/

@[simp] theorem put_self {α : Type} {n : Nat} (v : Vector α n) (i : Fin n) (x : α) :
    (put v i x)[i.val] = x := by
  simp [put]

theorem put_ne {α : Type} {n : Nat} (v : Vector α n) {i j : Fin n} (x : α) (h : i ≠ j) :
    (put v i x)[j.val] = v[j.val] := by
  simp [put, Fin.val_ne_of_ne h]

theorem put_get {α : Type} {n : Nat} (v : Vector α n) (i j : Fin n) (x : α) :
    (put v i x)[j.val] = if i = j then x else v[j.val] := by
  split
  · subst_vars; exact put_self v _ x
  · exact put_ne v x ‹_›

@[simp] theorem setEdition_edition_self (s : State) (i : EditionId) (x : Edition) : (s.setEdition i x).edition i = some x := by
  simp [State.setEdition, State.edition]
theorem setEdition_edition_ne (s : State) {i j : EditionId} (x : Edition) (h : i ≠ j) : (s.setEdition i x).edition j = s.edition j := by
  simpa [State.setEdition, State.edition] using put_ne _ _ h
theorem setEdition_edition (s : State) (i j : EditionId) (x : Edition) :
    (s.setEdition i x).edition j = if i = j then some x else s.edition j := by
  simp [State.setEdition, State.edition, put_get]
@[simp] theorem setTicket_ticket_self (s : State) (i : TicketId) (x : Ticket) : (s.setTicket i x).ticket i = some x := by
  simp [State.setTicket, State.ticket]
theorem setTicket_ticket_ne (s : State) {i j : TicketId} (x : Ticket) (h : i ≠ j) : (s.setTicket i x).ticket j = s.ticket j := by
  simpa [State.setTicket, State.ticket] using put_ne _ _ h
theorem setTicket_ticket (s : State) (i j : TicketId) (x : Ticket) :
    (s.setTicket i x).ticket j = if i = j then some x else s.ticket j := by
  simp [State.setTicket, State.ticket, put_get]
@[simp] theorem setChannel_channel_self (s : State) (i : ChannelId) (x : Channel) : (s.setChannel i x).channel i = x := by
  simp [State.setChannel, State.channel]
theorem setChannel_channel_ne (s : State) {i j : ChannelId} (x : Channel) (h : i ≠ j) : (s.setChannel i x).channel j = s.channel j := by
  simpa [State.setChannel, State.channel] using put_ne _ _ h
theorem setChannel_channel (s : State) (i j : ChannelId) (x : Channel) :
    (s.setChannel i x).channel j = if i = j then x else s.channel j := by
  simp [State.setChannel, State.channel, put_get]
@[simp] theorem setTank_tank_self (s : State) (i : TankId) (x : TankSlot) : (s.setTank i x).tank i = x := by
  simp [State.setTank, State.tank]
theorem setTank_tank_ne (s : State) {i j : TankId} (x : TankSlot) (h : i ≠ j) : (s.setTank i x).tank j = s.tank j := by
  simpa [State.setTank, State.tank] using put_ne _ _ h
theorem setTank_tank (s : State) (i j : TankId) (x : TankSlot) :
    (s.setTank i x).tank j = if i = j then x else s.tank j := by
  simp [State.setTank, State.tank, put_get]
@[simp] theorem setRoll_roll_self (s : State) (i : RollId) (x : Option Roll) : (s.setRoll i x).roll i = x := by
  simp [State.setRoll, State.roll]
theorem setRoll_roll_ne (s : State) {i j : RollId} (x : Option Roll) (h : i ≠ j) : (s.setRoll i x).roll j = s.roll j := by
  simpa [State.setRoll, State.roll] using put_ne _ _ h
theorem setRoll_roll (s : State) (i j : RollId) (x : Option Roll) :
    (s.setRoll i x).roll j = if i = j then x else s.roll j := by
  simp [State.setRoll, State.roll, put_get]
@[simp] theorem setRefset_refset_self (s : State) (i : RefsetId) (x : RefSet) : (s.setRefset i x).refset i = x := by
  simp [State.setRefset, State.refset]
theorem setRefset_refset_ne (s : State) {i j : RefsetId} (x : RefSet) (h : i ≠ j) : (s.setRefset i x).refset j = s.refset j := by
  simpa [State.setRefset, State.refset] using put_ne _ _ h
theorem setRefset_refset (s : State) (i j : RefsetId) (x : RefSet) :
    (s.setRefset i x).refset j = if i = j then x else s.refset j := by
  simp [State.setRefset, State.refset, put_get]

@[simp] theorem freeEdition_edition_self (s : State) (i : EditionId) : (s.freeEdition i).edition i = none := by
  simp [State.freeEdition, State.edition]
theorem freeEdition_edition_ne (s : State) {i j : EditionId} (h : i ≠ j) :
    (s.freeEdition i).edition j = s.edition j := by
  simpa [State.freeEdition, State.edition] using put_ne _ _ h
@[simp] theorem freeTicket_ticket_self (s : State) (t : TicketId) : (s.freeTicket t).ticket t = none := by
  simp [State.freeTicket, State.ticket]
theorem freeTicket_ticket_ne (s : State) {t u : TicketId} (h : t ≠ u) : (s.freeTicket t).ticket u = s.ticket u := by
  simpa [State.freeTicket, State.ticket] using put_ne _ _ h
@[simp] theorem setChannel_tank (s : State) (c : ChannelId) (x : Channel) (t : TankId) :
    (s.setChannel c x).tank t = s.tank t := rfl
@[simp] theorem setTank_channel (s : State) (t : TankId) (x : TankSlot) (c : ChannelId) :
    (s.setTank t x).channel c = s.channel c := rfl
@[simp] theorem setTank_presence (s : State) (t : TankId) (x : TankSlot) :
    (s.setTank t x).supply.presence = s.supply.presence := rfl
@[simp] theorem setChannel_presence (s : State) (c : ChannelId) (x : Channel) :
    (s.setChannel c x).supply.presence = s.supply.presence := rfl

end Sys2Proof.Machine
end

