-- ==== Sys2Proof/Laws/FramesTickets.lean ====
section
/-! SUPPORT. What each shared operation of tickets, rolls and costs leaves as it was: one lemma per
operation, over every block of the state that it does not touch. -/

namespace Sys2Proof.Machine

open Sys2Proof

/-- A fold keeps what its step keeps. -/
theorem foldl_keeps {α β : Type} (g : State → β) (f : State → α → State) (h : ∀ s a, g (f s a) = g s)
    (l : List α) (s : State) : g (l.foldl f s) = g s := by
  induction l generalizing s with
  | nil => rfl
  | cons a l ih => simp [ih, h]

@[simp] theorem setEdition_keeps (s : State) (i : EditionId) (e : Edition) :
    (s.setEdition i e).desk = s.desk ∧ (s.setEdition i e).costing = s.costing ∧
    (s.setEdition i e).supply = s.supply ∧ (s.setEdition i e).tags = s.tags ∧
    (s.setEdition i e).media = s.media ∧ (s.setEdition i e).engine = s.engine ∧
    (s.setEdition i e).cutter = s.cutter ∧ (s.setEdition i e).colour = s.colour ∧
    (s.setEdition i e).run = s.run ∧ (s.setEdition i e).link = s.link ∧ (s.setEdition i e).notices = s.notices ∧
    (s.setEdition i e).date = s.date ∧ (s.setEdition i e).out = s.out ∧
    (s.setEdition i e).pending = s.pending := by
  simp [State.setEdition]

@[simp] theorem freeEdition_keeps (s : State) (i : EditionId) :
    (s.freeEdition i).desk = s.desk ∧ (s.freeEdition i).costing = s.costing ∧
    (s.freeEdition i).supply = s.supply ∧ (s.freeEdition i).tags = s.tags ∧ (s.freeEdition i).media = s.media ∧
    (s.freeEdition i).engine = s.engine ∧ (s.freeEdition i).cutter = s.cutter ∧
    (s.freeEdition i).colour = s.colour ∧ (s.freeEdition i).run = s.run ∧ (s.freeEdition i).link = s.link ∧
    (s.freeEdition i).notices = s.notices ∧ (s.freeEdition i).date = s.date ∧ (s.freeEdition i).out = s.out ∧
    (s.freeEdition i).pending = s.pending := by
  simp [State.freeEdition]

@[simp] theorem modEdition_keeps (s : State) (i : EditionId) (f : Edition → Edition) :
    (s.modEdition i f).desk = s.desk ∧ (s.modEdition i f).costing = s.costing ∧
    (s.modEdition i f).supply = s.supply ∧ (s.modEdition i f).tags = s.tags ∧
    (s.modEdition i f).media = s.media ∧ (s.modEdition i f).engine = s.engine ∧
    (s.modEdition i f).cutter = s.cutter ∧ (s.modEdition i f).colour = s.colour ∧
    (s.modEdition i f).run = s.run ∧ (s.modEdition i f).link = s.link ∧ (s.modEdition i f).notices = s.notices ∧
    (s.modEdition i f).date = s.date ∧ (s.modEdition i f).out = s.out ∧
    (s.modEdition i f).pending = s.pending := by
  unfold State.modEdition; split <;> simp

@[simp] theorem setTicket_keeps (s : State) (t : TicketId) (k : Ticket) :
    (s.setTicket t k).editions = s.editions ∧ (s.setTicket t k).costing = s.costing ∧
    (s.setTicket t k).supply = s.supply ∧ (s.setTicket t k).tags = s.tags ∧ (s.setTicket t k).media = s.media ∧
    (s.setTicket t k).engine = s.engine ∧ (s.setTicket t k).cutter = s.cutter ∧
    (s.setTicket t k).colour = s.colour ∧ (s.setTicket t k).run = s.run ∧ (s.setTicket t k).link = s.link ∧
    (s.setTicket t k).notices = s.notices ∧ (s.setTicket t k).date = s.date ∧ (s.setTicket t k).out = s.out ∧
    (s.setTicket t k).pending = s.pending := by
  simp [State.setTicket]

@[simp] theorem freeTicket_keeps (s : State) (t : TicketId) :
    (s.freeTicket t).editions = s.editions ∧ (s.freeTicket t).costing = s.costing ∧
    (s.freeTicket t).supply = s.supply ∧ (s.freeTicket t).tags = s.tags ∧ (s.freeTicket t).media = s.media ∧
    (s.freeTicket t).engine = s.engine ∧ (s.freeTicket t).cutter = s.cutter ∧
    (s.freeTicket t).colour = s.colour ∧ (s.freeTicket t).run = s.run ∧ (s.freeTicket t).link = s.link ∧
    (s.freeTicket t).notices = s.notices ∧ (s.freeTicket t).date = s.date ∧ (s.freeTicket t).out = s.out ∧
    (s.freeTicket t).pending = s.pending := by
  simp [State.freeTicket]

@[simp] theorem modTicket_keeps (s : State) (t : TicketId) (f : Ticket → Ticket) :
    (s.modTicket t f).editions = s.editions ∧ (s.modTicket t f).costing = s.costing ∧
    (s.modTicket t f).supply = s.supply ∧ (s.modTicket t f).tags = s.tags ∧ (s.modTicket t f).media = s.media ∧
    (s.modTicket t f).engine = s.engine ∧ (s.modTicket t f).cutter = s.cutter ∧
    (s.modTicket t f).colour = s.colour ∧ (s.modTicket t f).run = s.run ∧ (s.modTicket t f).link = s.link ∧
    (s.modTicket t f).notices = s.notices ∧ (s.modTicket t f).date = s.date ∧ (s.modTicket t f).out = s.out ∧
    (s.modTicket t f).pending = s.pending := by
  unfold State.modTicket; split <;> simp

@[simp] theorem setChannel_keeps (s : State) (c : ChannelId) (x : Channel) :
    (s.setChannel c x).editions = s.editions ∧ (s.setChannel c x).desk = s.desk ∧
    (s.setChannel c x).costing = s.costing ∧ (s.setChannel c x).tags = s.tags ∧
    (s.setChannel c x).media = s.media ∧ (s.setChannel c x).engine = s.engine ∧
    (s.setChannel c x).cutter = s.cutter ∧ (s.setChannel c x).colour = s.colour ∧
    (s.setChannel c x).run = s.run ∧ (s.setChannel c x).link = s.link ∧ (s.setChannel c x).notices = s.notices ∧
    (s.setChannel c x).date = s.date ∧ (s.setChannel c x).out = s.out ∧
    (s.setChannel c x).pending = s.pending := by
  simp [State.setChannel]

@[simp] theorem setTank_keeps (s : State) (t : TankId) (x : TankSlot) :
    (s.setTank t x).editions = s.editions ∧ (s.setTank t x).desk = s.desk ∧
    (s.setTank t x).costing = s.costing ∧ (s.setTank t x).tags = s.tags ∧ (s.setTank t x).media = s.media ∧
    (s.setTank t x).engine = s.engine ∧ (s.setTank t x).cutter = s.cutter ∧ (s.setTank t x).colour = s.colour ∧
    (s.setTank t x).run = s.run ∧ (s.setTank t x).link = s.link ∧ (s.setTank t x).notices = s.notices ∧
    (s.setTank t x).date = s.date ∧ (s.setTank t x).out = s.out ∧ (s.setTank t x).pending = s.pending := by
  simp [State.setTank]

@[simp] theorem setRoll_keeps (s : State) (r : RollId) (x : Option Roll) :
    (s.setRoll r x).editions = s.editions ∧ (s.setRoll r x).desk = s.desk ∧
    (s.setRoll r x).costing = s.costing ∧ (s.setRoll r x).supply = s.supply ∧ (s.setRoll r x).tags = s.tags ∧
    (s.setRoll r x).engine = s.engine ∧ (s.setRoll r x).cutter = s.cutter ∧ (s.setRoll r x).colour = s.colour ∧
    (s.setRoll r x).run = s.run ∧ (s.setRoll r x).link = s.link ∧ (s.setRoll r x).notices = s.notices ∧
    (s.setRoll r x).date = s.date ∧ (s.setRoll r x).out = s.out ∧ (s.setRoll r x).pending = s.pending := by
  simp [State.setRoll]

@[simp] theorem setRefset_keeps (s : State) (r : RefsetId) (x : RefSet) :
    (s.setRefset r x).editions = s.editions ∧ (s.setRefset r x).desk = s.desk ∧
    (s.setRefset r x).costing = s.costing ∧ (s.setRefset r x).supply = s.supply ∧
    (s.setRefset r x).tags = s.tags ∧ (s.setRefset r x).media = s.media ∧ (s.setRefset r x).engine = s.engine ∧
    (s.setRefset r x).cutter = s.cutter ∧ (s.setRefset r x).run = s.run ∧ (s.setRefset r x).link = s.link ∧
    (s.setRefset r x).notices = s.notices ∧ (s.setRefset r x).date = s.date ∧ (s.setRefset r x).out = s.out ∧
    (s.setRefset r x).pending = s.pending := by
  simp [State.setRefset]

@[simp] theorem raise_keeps (s : State) (k : Notice) :
    (s.raise k).editions = s.editions ∧ (s.raise k).desk = s.desk ∧ (s.raise k).costing = s.costing ∧
    (s.raise k).supply = s.supply ∧ (s.raise k).tags = s.tags ∧ (s.raise k).media = s.media ∧
    (s.raise k).engine = s.engine ∧ (s.raise k).cutter = s.cutter ∧ (s.raise k).colour = s.colour ∧
    (s.raise k).run = s.run ∧ (s.raise k).link = s.link ∧ (s.raise k).date = s.date ∧ (s.raise k).out = s.out ∧
    (s.raise k).pending = s.pending := by
  simp [State.raise]

@[simp] theorem raiseIf_keeps (s : State) (c : Bool) (k : Notice) :
    (s.raiseIf c k).editions = s.editions ∧ (s.raiseIf c k).desk = s.desk ∧
    (s.raiseIf c k).costing = s.costing ∧ (s.raiseIf c k).supply = s.supply ∧ (s.raiseIf c k).tags = s.tags ∧
    (s.raiseIf c k).media = s.media ∧ (s.raiseIf c k).engine = s.engine ∧ (s.raiseIf c k).cutter = s.cutter ∧
    (s.raiseIf c k).colour = s.colour ∧ (s.raiseIf c k).run = s.run ∧ (s.raiseIf c k).link = s.link ∧
    (s.raiseIf c k).date = s.date ∧ (s.raiseIf c k).out = s.out ∧ (s.raiseIf c k).pending = s.pending := by
  unfold State.raiseIf; split <;> simp

@[simp] theorem emit_keeps (s : State) (o : Output) :
    (s.emit o).editions = s.editions ∧ (s.emit o).desk = s.desk ∧ (s.emit o).costing = s.costing ∧
    (s.emit o).supply = s.supply ∧ (s.emit o).tags = s.tags ∧ (s.emit o).media = s.media ∧
    (s.emit o).engine = s.engine ∧ (s.emit o).cutter = s.cutter ∧ (s.emit o).colour = s.colour ∧
    (s.emit o).run = s.run ∧ (s.emit o).link = s.link ∧ (s.emit o).notices = s.notices ∧
    (s.emit o).date = s.date ∧ (s.emit o).pending = s.pending := by
  simp [State.emit]

@[simp] theorem begin_keeps (s : State) :
    s.begin.editions = s.editions ∧ s.begin.desk = s.desk ∧ s.begin.costing = s.costing ∧
    s.begin.supply = s.supply ∧ s.begin.tags = s.tags ∧ s.begin.media = s.media ∧ s.begin.engine = s.engine ∧
    s.begin.cutter = s.cutter ∧ s.begin.colour = s.colour ∧ s.begin.run = s.run ∧ s.begin.link = s.link ∧
    s.begin.notices = s.notices ∧ s.begin.date = s.date ∧ s.begin.pending = s.pending := by
  simp [State.begin]

@[simp] theorem enterRun_keeps (s : State) (st : RunState) :
    (s.enterRun st).editions = s.editions ∧ (s.enterRun st).desk = s.desk ∧
    (s.enterRun st).costing = s.costing ∧ (s.enterRun st).supply = s.supply ∧ (s.enterRun st).tags = s.tags ∧
    (s.enterRun st).media = s.media ∧ (s.enterRun st).engine = s.engine ∧ (s.enterRun st).cutter = s.cutter ∧
    (s.enterRun st).colour = s.colour ∧ (s.enterRun st).link = s.link ∧ (s.enterRun st).notices = s.notices ∧
    (s.enterRun st).date = s.date ∧ (s.enterRun st).out = s.out ∧ (s.enterRun st).pending = s.pending := by
  simp [State.enterRun]

@[simp] theorem reload_keeps (s : State) (src : ReloadSource) :
    (s.reload src).editions = s.editions ∧ (s.reload src).desk = s.desk ∧ (s.reload src).costing = s.costing ∧
    (s.reload src).supply = s.supply ∧ (s.reload src).tags = s.tags ∧ (s.reload src).media = s.media ∧
    (s.reload src).engine = s.engine ∧ (s.reload src).cutter = s.cutter ∧ (s.reload src).colour = s.colour ∧
    (s.reload src).link = s.link ∧ (s.reload src).notices = s.notices ∧ (s.reload src).date = s.date ∧
    (s.reload src).out = s.out ∧ (s.reload src).pending = s.pending := by
  unfold State.reload; split <;> simp

@[simp] theorem noTicketUnclosed_keeps (s : State) :
    s.noTicketUnclosed.editions = s.editions ∧ s.noTicketUnclosed.desk = s.desk ∧
    s.noTicketUnclosed.costing = s.costing ∧ s.noTicketUnclosed.supply = s.supply ∧
    s.noTicketUnclosed.tags = s.tags ∧ s.noTicketUnclosed.media = s.media ∧
    s.noTicketUnclosed.engine = s.engine ∧ s.noTicketUnclosed.cutter = s.cutter ∧
    s.noTicketUnclosed.colour = s.colour ∧ s.noTicketUnclosed.link = s.link ∧
    s.noTicketUnclosed.notices = s.notices ∧ s.noTicketUnclosed.date = s.date ∧ s.noTicketUnclosed.out = s.out ∧
    s.noTicketUnclosed.pending = s.pending := by
  unfold State.noTicketUnclosed; split <;> (try split) <;> simp

@[simp] theorem startWake_keeps (s : State) :
    s.startWake.editions = s.editions ∧ s.startWake.desk = s.desk ∧ s.startWake.costing = s.costing ∧
    s.startWake.supply = s.supply ∧ s.startWake.tags = s.tags ∧ s.startWake.media = s.media ∧
    s.startWake.engine = s.engine ∧ s.startWake.cutter = s.cutter ∧ s.startWake.colour = s.colour ∧
    s.startWake.link = s.link ∧ s.startWake.notices = s.notices ∧ s.startWake.date = s.date ∧
    s.startWake.out = s.out ∧ s.startWake.pending = s.pending := by
  simp [State.startWake]

@[simp] theorem cancelByPart_keeps (s : State) (t : TicketId) (cause : SpoilCause) :
    (s.cancelByPart t cause).costing = s.costing ∧ (s.cancelByPart t cause).supply = s.supply ∧
    (s.cancelByPart t cause).tags = s.tags ∧ (s.cancelByPart t cause).media = s.media ∧
    (s.cancelByPart t cause).engine = s.engine ∧ (s.cancelByPart t cause).cutter = s.cutter ∧
    (s.cancelByPart t cause).colour = s.colour ∧ (s.cancelByPart t cause).link = s.link ∧
    (s.cancelByPart t cause).date = s.date ∧ (s.cancelByPart t cause).out = s.out ∧
    (s.cancelByPart t cause).pending = s.pending := by
  unfold State.cancelByPart; split <;> simp

@[simp] theorem cancelAll_keeps (s : State) (ts : List TicketId) (cause : SpoilCause) :
    (s.cancelAll ts cause).costing = s.costing ∧ (s.cancelAll ts cause).supply = s.supply ∧
    (s.cancelAll ts cause).tags = s.tags ∧ (s.cancelAll ts cause).media = s.media ∧
    (s.cancelAll ts cause).engine = s.engine ∧ (s.cancelAll ts cause).cutter = s.cutter ∧
    (s.cancelAll ts cause).colour = s.colour ∧ (s.cancelAll ts cause).link = s.link ∧
    (s.cancelAll ts cause).date = s.date ∧ (s.cancelAll ts cause).out = s.out ∧
    (s.cancelAll ts cause).pending = s.pending := by
  unfold State.cancelAll
  and_intros
  · exact foldl_keeps (fun s : State => s.costing) _ (by simp) _ _
  · exact foldl_keeps (fun s : State => s.supply) _ (by simp) _ _
  · exact foldl_keeps (fun s : State => s.tags) _ (by simp) _ _
  · exact foldl_keeps (fun s : State => s.media) _ (by simp) _ _
  · exact foldl_keeps (fun s : State => s.engine) _ (by simp) _ _
  · exact foldl_keeps (fun s : State => s.cutter) _ (by simp) _ _
  · exact foldl_keeps (fun s : State => s.colour) _ (by simp) _ _
  · exact foldl_keeps (fun s : State => s.link) _ (by simp) _ _
  · exact foldl_keeps (fun s : State => s.date) _ (by simp) _ _
  · exact foldl_keeps (fun s : State => s.out) _ (by simp) _ _
  · exact foldl_keeps (fun s : State => s.pending) _ (by simp) _ _

@[simp] theorem modTickets_keeps (s : State) (f : Ticket → Ticket) :
    (s.modTickets f).editions = s.editions ∧ (s.modTickets f).costing = s.costing ∧
    (s.modTickets f).supply = s.supply ∧ (s.modTickets f).tags = s.tags ∧ (s.modTickets f).media = s.media ∧
    (s.modTickets f).engine = s.engine ∧ (s.modTickets f).cutter = s.cutter ∧
    (s.modTickets f).colour = s.colour ∧ (s.modTickets f).run = s.run ∧ (s.modTickets f).link = s.link ∧
    (s.modTickets f).notices = s.notices ∧ (s.modTickets f).date = s.date ∧ (s.modTickets f).out = s.out ∧
    (s.modTickets f).pending = s.pending := by
  unfold State.modTickets
  and_intros
  · exact foldl_keeps (fun s : State => s.editions) _ (by simp) _ _
  · exact foldl_keeps (fun s : State => s.costing) _ (by simp) _ _
  · exact foldl_keeps (fun s : State => s.supply) _ (by simp) _ _
  · exact foldl_keeps (fun s : State => s.tags) _ (by simp) _ _
  · exact foldl_keeps (fun s : State => s.media) _ (by simp) _ _
  · exact foldl_keeps (fun s : State => s.engine) _ (by simp) _ _
  · exact foldl_keeps (fun s : State => s.cutter) _ (by simp) _ _
  · exact foldl_keeps (fun s : State => s.colour) _ (by simp) _ _
  · exact foldl_keeps (fun s : State => s.run) _ (by simp) _ _
  · exact foldl_keeps (fun s : State => s.link) _ (by simp) _ _
  · exact foldl_keeps (fun s : State => s.notices) _ (by simp) _ _
  · exact foldl_keeps (fun s : State => s.date) _ (by simp) _ _
  · exact foldl_keeps (fun s : State => s.out) _ (by simp) _ _
  · exact foldl_keeps (fun s : State => s.pending) _ (by simp) _ _

@[simp] theorem stopEdition_keeps (s : State) (i : EditionId) (cause : SpoilCause) :
    (s.stopEdition i cause).costing = s.costing ∧ (s.stopEdition i cause).supply = s.supply ∧
    (s.stopEdition i cause).tags = s.tags ∧ (s.stopEdition i cause).media = s.media ∧
    (s.stopEdition i cause).engine = s.engine ∧ (s.stopEdition i cause).cutter = s.cutter ∧
    (s.stopEdition i cause).colour = s.colour ∧ (s.stopEdition i cause).link = s.link ∧
    (s.stopEdition i cause).date = s.date ∧ (s.stopEdition i cause).out = s.out ∧
    (s.stopEdition i cause).pending = s.pending := by
  simp [State.stopEdition]

@[simp] theorem markQualifying_keeps (s : State) (t : TicketId) (e : Edition) (patches : Nat) :
    (s.markQualifying t e patches).costing = s.costing ∧ (s.markQualifying t e patches).supply = s.supply ∧
    (s.markQualifying t e patches).tags = s.tags ∧ (s.markQualifying t e patches).media = s.media ∧
    (s.markQualifying t e patches).engine = s.engine ∧ (s.markQualifying t e patches).cutter = s.cutter ∧
    (s.markQualifying t e patches).colour = s.colour ∧ (s.markQualifying t e patches).link = s.link ∧
    (s.markQualifying t e patches).date = s.date ∧ (s.markQualifying t e patches).out = s.out ∧
    (s.markQualifying t e patches).pending = s.pending := by
  unfold State.markQualifying; dsimp only
  (repeat' split) <;> simp

@[simp] theorem qualifyTickets_keeps (s : State) (i : EditionId) (e : Edition) :
    (s.qualifyTickets i e).costing = s.costing ∧ (s.qualifyTickets i e).supply = s.supply ∧
    (s.qualifyTickets i e).tags = s.tags ∧ (s.qualifyTickets i e).media = s.media ∧
    (s.qualifyTickets i e).engine = s.engine ∧ (s.qualifyTickets i e).cutter = s.cutter ∧
    (s.qualifyTickets i e).colour = s.colour ∧ (s.qualifyTickets i e).link = s.link ∧
    (s.qualifyTickets i e).date = s.date ∧ (s.qualifyTickets i e).out = s.out ∧
    (s.qualifyTickets i e).pending = s.pending := by
  unfold State.qualifyTickets; split <;> simp

@[simp] theorem enterQualify_keeps (s : State) (i : EditionId) :
    (s.enterQualify i).costing = s.costing ∧ (s.enterQualify i).supply = s.supply ∧
    (s.enterQualify i).tags = s.tags ∧ (s.enterQualify i).media = s.media ∧
    (s.enterQualify i).engine = s.engine ∧ (s.enterQualify i).cutter = s.cutter ∧
    (s.enterQualify i).colour = s.colour ∧ (s.enterQualify i).link = s.link ∧ (s.enterQualify i).date = s.date ∧
    (s.enterQualify i).out = s.out ∧ (s.enterQualify i).pending = s.pending := by
  unfold State.enterQualify; split <;> simp

@[simp] theorem lotChange_keeps (s : State) (i : EditionId) :
    (s.lotChange i).editions = s.editions ∧ (s.lotChange i).costing = s.costing ∧
    (s.lotChange i).supply = s.supply ∧ (s.lotChange i).tags = s.tags ∧ (s.lotChange i).media = s.media ∧
    (s.lotChange i).engine = s.engine ∧ (s.lotChange i).cutter = s.cutter ∧ (s.lotChange i).colour = s.colour ∧
    (s.lotChange i).run = s.run ∧ (s.lotChange i).link = s.link ∧ (s.lotChange i).notices = s.notices ∧
    (s.lotChange i).date = s.date ∧ (s.lotChange i).out = s.out ∧ (s.lotChange i).pending = s.pending := by
  simp [State.lotChange]

@[simp] theorem reportTo_keeps (s : State) (c : ChannelId) (lot : Nat) (i : EditionId) :
    (s.reportTo c lot i).costing = s.costing ∧ (s.reportTo c lot i).supply = s.supply ∧
    (s.reportTo c lot i).tags = s.tags ∧ (s.reportTo c lot i).media = s.media ∧
    (s.reportTo c lot i).engine = s.engine ∧ (s.reportTo c lot i).cutter = s.cutter ∧
    (s.reportTo c lot i).colour = s.colour ∧ (s.reportTo c lot i).link = s.link ∧
    (s.reportTo c lot i).date = s.date ∧ (s.reportTo c lot i).out = s.out ∧
    (s.reportTo c lot i).pending = s.pending := by
  unfold State.reportTo
  (repeat' split) <;> simp

@[simp] theorem feedingReport_keeps (s : State) (c : ChannelId) (lot : Nat) :
    (s.feedingReport c lot).costing = s.costing ∧ (s.feedingReport c lot).supply = s.supply ∧
    (s.feedingReport c lot).tags = s.tags ∧ (s.feedingReport c lot).media = s.media ∧
    (s.feedingReport c lot).engine = s.engine ∧ (s.feedingReport c lot).cutter = s.cutter ∧
    (s.feedingReport c lot).colour = s.colour ∧ (s.feedingReport c lot).link = s.link ∧
    (s.feedingReport c lot).date = s.date ∧ (s.feedingReport c lot).out = s.out ∧
    (s.feedingReport c lot).pending = s.pending := by
  unfold State.feedingReport
  and_intros
  · exact foldl_keeps (fun s : State => s.costing) _ (by simp) _ _
  · exact foldl_keeps (fun s : State => s.supply) _ (by simp) _ _
  · exact foldl_keeps (fun s : State => s.tags) _ (by simp) _ _
  · exact foldl_keeps (fun s : State => s.media) _ (by simp) _ _
  · exact foldl_keeps (fun s : State => s.engine) _ (by simp) _ _
  · exact foldl_keeps (fun s : State => s.cutter) _ (by simp) _ _
  · exact foldl_keeps (fun s : State => s.colour) _ (by simp) _ _
  · exact foldl_keeps (fun s : State => s.link) _ (by simp) _ _
  · exact foldl_keeps (fun s : State => s.date) _ (by simp) _ _
  · exact foldl_keeps (fun s : State => s.out) _ (by simp) _ _
  · exact foldl_keeps (fun s : State => s.pending) _ (by simp) _ _

@[simp] theorem placeTicket_keeps (s : State) (t : TicketId) (oldEnd : Int) :
    (s.placeTicket t oldEnd).editions = s.editions ∧ (s.placeTicket t oldEnd).costing = s.costing ∧
    (s.placeTicket t oldEnd).supply = s.supply ∧ (s.placeTicket t oldEnd).tags = s.tags ∧
    (s.placeTicket t oldEnd).engine = s.engine ∧ (s.placeTicket t oldEnd).cutter = s.cutter ∧
    (s.placeTicket t oldEnd).colour = s.colour ∧ (s.placeTicket t oldEnd).run = s.run ∧
    (s.placeTicket t oldEnd).link = s.link ∧ (s.placeTicket t oldEnd).notices = s.notices ∧
    (s.placeTicket t oldEnd).date = s.date ∧ (s.placeTicket t oldEnd).out = s.out ∧
    (s.placeTicket t oldEnd).pending = s.pending := by
  unfold State.placeTicket; split <;> simp

@[simp] theorem startTicket_keeps (s : State) (t : TicketId) :
    (s.startTicket t).editions = s.editions ∧ (s.startTicket t).costing = s.costing ∧
    (s.startTicket t).supply = s.supply ∧ (s.startTicket t).tags = s.tags ∧
    (s.startTicket t).engine = s.engine ∧ (s.startTicket t).cutter = s.cutter ∧
    (s.startTicket t).colour = s.colour ∧ (s.startTicket t).run = s.run ∧ (s.startTicket t).link = s.link ∧
    (s.startTicket t).notices = s.notices ∧ (s.startTicket t).date = s.date ∧
    (s.startTicket t).pending = s.pending := by
  unfold State.startTicket; dsimp only; split <;> simp

@[simp] theorem startTest_keeps (s : State) :
    s.startTest.editions = s.editions ∧ s.startTest.costing = s.costing ∧ s.startTest.supply = s.supply ∧
    s.startTest.tags = s.tags ∧ s.startTest.engine = s.engine ∧ s.startTest.cutter = s.cutter ∧
    s.startTest.colour = s.colour ∧ s.startTest.run = s.run ∧ s.startTest.link = s.link ∧
    s.startTest.notices = s.notices ∧ s.startTest.date = s.date ∧ s.startTest.pending = s.pending := by
  unfold State.startTest; split <;> (try split) <;> simp

@[simp] theorem enterRunning_keeps (s : State) :
    s.enterRunning.editions = s.editions ∧ s.enterRunning.costing = s.costing ∧
    s.enterRunning.supply = s.supply ∧ s.enterRunning.tags = s.tags ∧ s.enterRunning.engine = s.engine ∧
    s.enterRunning.cutter = s.cutter ∧ s.enterRunning.colour = s.colour ∧ s.enterRunning.link = s.link ∧
    s.enterRunning.notices = s.notices ∧ s.enterRunning.date = s.date ∧ s.enterRunning.pending = s.pending := by
  simp [State.enterRunning]

@[simp] theorem drainEject_keeps (s : State) :
    s.drainEject.editions = s.editions ∧ s.drainEject.desk = s.desk ∧ s.drainEject.costing = s.costing ∧
    s.drainEject.supply = s.supply ∧ s.drainEject.tags = s.tags ∧ s.drainEject.engine = s.engine ∧
    s.drainEject.cutter = s.cutter ∧ s.drainEject.colour = s.colour ∧ s.drainEject.run = s.run ∧
    s.drainEject.link = s.link ∧ s.drainEject.notices = s.notices ∧ s.drainEject.date = s.date ∧
    s.drainEject.out = s.out ∧ s.drainEject.pending = s.pending := by
  unfold State.drainEject; split <;> simp

@[simp] theorem feedRoll_keeps (s : State) (f : Nat) :
    (s.feedRoll f).editions = s.editions ∧ (s.feedRoll f).desk = s.desk ∧ (s.feedRoll f).costing = s.costing ∧
    (s.feedRoll f).supply = s.supply ∧ (s.feedRoll f).tags = s.tags ∧ (s.feedRoll f).engine = s.engine ∧
    (s.feedRoll f).cutter = s.cutter ∧ (s.feedRoll f).colour = s.colour ∧ (s.feedRoll f).run = s.run ∧
    (s.feedRoll f).link = s.link ∧ (s.feedRoll f).date = s.date ∧ (s.feedRoll f).out = s.out ∧
    (s.feedRoll f).pending = s.pending := by
  unfold State.feedRoll; split <;> (try split) <;> simp

@[simp] theorem ejectTest_keeps (s before : State) :
    (s.ejectTest before).editions = s.editions ∧ (s.ejectTest before).desk = s.desk ∧
    (s.ejectTest before).costing = s.costing ∧ (s.ejectTest before).supply = s.supply ∧
    (s.ejectTest before).tags = s.tags ∧ (s.ejectTest before).engine = s.engine ∧
    (s.ejectTest before).cutter = s.cutter ∧ (s.ejectTest before).colour = s.colour ∧
    (s.ejectTest before).run = s.run ∧ (s.ejectTest before).link = s.link ∧
    (s.ejectTest before).notices = s.notices ∧ (s.ejectTest before).date = s.date ∧
    (s.ejectTest before).out = s.out ∧ (s.ejectTest before).pending = s.pending := by
  unfold State.ejectTest; split <;> (try split) <;> simp

@[simp] theorem chargeTicket_keeps (s : State) (t : TicketId) (micro : Nat) :
    (s.chargeTicket t micro).editions = s.editions ∧ (s.chargeTicket t micro).costing = s.costing ∧
    (s.chargeTicket t micro).supply = s.supply ∧ (s.chargeTicket t micro).tags = s.tags ∧
    (s.chargeTicket t micro).media = s.media ∧ (s.chargeTicket t micro).engine = s.engine ∧
    (s.chargeTicket t micro).cutter = s.cutter ∧ (s.chargeTicket t micro).colour = s.colour ∧
    (s.chargeTicket t micro).run = s.run ∧ (s.chargeTicket t micro).link = s.link ∧
    (s.chargeTicket t micro).notices = s.notices ∧ (s.chargeTicket t micro).date = s.date ∧
    (s.chargeTicket t micro).out = s.out ∧ (s.chargeTicket t micro).pending = s.pending := by
  simp [State.chargeTicket]

@[simp] theorem chargeHouse_keeps (s : State) (micro : Nat) :
    (s.chargeHouse micro).editions = s.editions ∧ (s.chargeHouse micro).desk = s.desk ∧
    (s.chargeHouse micro).supply = s.supply ∧ (s.chargeHouse micro).tags = s.tags ∧
    (s.chargeHouse micro).media = s.media ∧ (s.chargeHouse micro).engine = s.engine ∧
    (s.chargeHouse micro).cutter = s.cutter ∧ (s.chargeHouse micro).colour = s.colour ∧
    (s.chargeHouse micro).run = s.run ∧ (s.chargeHouse micro).link = s.link ∧
    (s.chargeHouse micro).notices = s.notices ∧ (s.chargeHouse micro).date = s.date ∧
    (s.chargeHouse micro).out = s.out ∧ (s.chargeHouse micro).pending = s.pending := by
  simp [State.chargeHouse]

@[simp] theorem chargeFee_keeps (s : State) (t : TicketId) (cu : Nat) :
    (s.chargeFee t cu).editions = s.editions ∧ (s.chargeFee t cu).costing = s.costing ∧
    (s.chargeFee t cu).supply = s.supply ∧ (s.chargeFee t cu).tags = s.tags ∧
    (s.chargeFee t cu).media = s.media ∧ (s.chargeFee t cu).engine = s.engine ∧
    (s.chargeFee t cu).cutter = s.cutter ∧ (s.chargeFee t cu).colour = s.colour ∧
    (s.chargeFee t cu).run = s.run ∧ (s.chargeFee t cu).link = s.link ∧ (s.chargeFee t cu).notices = s.notices ∧
    (s.chargeFee t cu).date = s.date ∧ (s.chargeFee t cu).out = s.out ∧
    (s.chargeFee t cu).pending = s.pending := by
  simp [State.chargeFee]

@[simp] theorem completeTest_keeps (s : State) (i : EditionId) :
    (s.completeTest i).desk = s.desk ∧ (s.completeTest i).costing = s.costing ∧
    (s.completeTest i).supply = s.supply ∧ (s.completeTest i).tags = s.tags ∧
    (s.completeTest i).media = s.media ∧ (s.completeTest i).engine = s.engine ∧
    (s.completeTest i).cutter = s.cutter ∧ (s.completeTest i).colour = s.colour ∧
    (s.completeTest i).run = s.run ∧ (s.completeTest i).link = s.link ∧ (s.completeTest i).date = s.date ∧
    (s.completeTest i).out = s.out ∧ (s.completeTest i).pending = s.pending := by
  unfold State.completeTest; split <;> (try split) <;> simp

@[simp] theorem holdByFailure_keeps (s : State) (i : EditionId) :
    (s.holdByFailure i).costing = s.costing ∧ (s.holdByFailure i).supply = s.supply ∧
    (s.holdByFailure i).tags = s.tags ∧ (s.holdByFailure i).media = s.media ∧
    (s.holdByFailure i).engine = s.engine ∧ (s.holdByFailure i).cutter = s.cutter ∧
    (s.holdByFailure i).colour = s.colour ∧ (s.holdByFailure i).link = s.link ∧
    (s.holdByFailure i).date = s.date ∧ (s.holdByFailure i).out = s.out ∧
    (s.holdByFailure i).pending = s.pending := by
  unfold State.holdByFailure; split <;> simp

@[simp] theorem editionJudges_keeps (s : State) (k : Ticket) (cost : Nat) :
    (s.editionJudges k cost).1.costing = s.costing ∧ (s.editionJudges k cost).1.supply = s.supply ∧
    (s.editionJudges k cost).1.tags = s.tags ∧ (s.editionJudges k cost).1.media = s.media ∧
    (s.editionJudges k cost).1.engine = s.engine ∧ (s.editionJudges k cost).1.cutter = s.cutter ∧
    (s.editionJudges k cost).1.colour = s.colour ∧ (s.editionJudges k cost).1.link = s.link ∧
    (s.editionJudges k cost).1.date = s.date ∧ (s.editionJudges k cost).1.out = s.out ∧
    (s.editionJudges k cost).1.pending = s.pending := by
  unfold State.editionJudges; dsimp only
  (repeat' split) <;> simp

@[simp] theorem drainPause_keeps (s : State) :
    s.drainPause.editions = s.editions ∧ s.drainPause.desk = s.desk ∧ s.drainPause.costing = s.costing ∧
    s.drainPause.supply = s.supply ∧ s.drainPause.tags = s.tags ∧ s.drainPause.media = s.media ∧
    s.drainPause.engine = s.engine ∧ s.drainPause.cutter = s.cutter ∧ s.drainPause.colour = s.colour ∧
    s.drainPause.link = s.link ∧ s.drainPause.notices = s.notices ∧ s.drainPause.date = s.date ∧
    s.drainPause.out = s.out ∧ s.drainPause.pending = s.pending := by
  unfold State.drainPause; split <;> simp

@[simp] theorem recordClose_keeps (s : State) (t : TicketId) (o : Outcome) (cost : Nat) :
    (s.recordClose t o cost).editions = s.editions ∧ (s.recordClose t o cost).costing = s.costing ∧
    (s.recordClose t o cost).supply = s.supply ∧ (s.recordClose t o cost).tags = s.tags ∧
    (s.recordClose t o cost).engine = s.engine ∧ (s.recordClose t o cost).cutter = s.cutter ∧
    (s.recordClose t o cost).colour = s.colour ∧ (s.recordClose t o cost).link = s.link ∧
    (s.recordClose t o cost).date = s.date ∧ (s.recordClose t o cost).pending = s.pending := by
  unfold State.recordClose; dsimp only
  (repeat' split) <;> simp

@[simp] theorem closeAtTrail_keeps (s : State) (t : TicketId) :
    (s.closeAtTrail t).costing = s.costing ∧ (s.closeAtTrail t).supply = s.supply ∧
    (s.closeAtTrail t).tags = s.tags ∧ (s.closeAtTrail t).engine = s.engine ∧
    (s.closeAtTrail t).cutter = s.cutter ∧ (s.closeAtTrail t).colour = s.colour ∧
    (s.closeAtTrail t).link = s.link ∧ (s.closeAtTrail t).date = s.date ∧
    (s.closeAtTrail t).pending = s.pending := by
  unfold State.closeAtTrail; split <;> (try split) <;> simp

@[simp] theorem closeAtStop_keeps (s : State) (t : TicketId) (cause : SpoilCause) :
    (s.closeAtStop t cause).costing = s.costing ∧ (s.closeAtStop t cause).supply = s.supply ∧
    (s.closeAtStop t cause).tags = s.tags ∧ (s.closeAtStop t cause).engine = s.engine ∧
    (s.closeAtStop t cause).cutter = s.cutter ∧ (s.closeAtStop t cause).colour = s.colour ∧
    (s.closeAtStop t cause).link = s.link ∧ (s.closeAtStop t cause).date = s.date ∧
    (s.closeAtStop t cause).pending = s.pending := by
  unfold State.closeAtStop; split <;> simp

@[simp] theorem recost_keeps (s : State) (t : TicketId) :
    (s.recost t).costing = s.costing ∧ (s.recost t).supply = s.supply ∧ (s.recost t).tags = s.tags ∧
    (s.recost t).media = s.media ∧ (s.recost t).engine = s.engine ∧ (s.recost t).cutter = s.cutter ∧
    (s.recost t).colour = s.colour ∧ (s.recost t).run = s.run ∧ (s.recost t).link = s.link ∧
    (s.recost t).notices = s.notices ∧ (s.recost t).date = s.date ∧ (s.recost t).out = s.out ∧
    (s.recost t).pending = s.pending := by
  unfold State.recost; split <;> (try split) <;> simp

end Sys2Proof.Machine
end

