-- ==== Sys2Proof/Laws/FramesPath.lean ====
section
/-! SUPPORT. What each shared operation of tanks, the path and the engine leaves as it was: one lemma per
operation, over every block of the state that it does not touch. -/

namespace Sys2Proof.Machine

open Sys2Proof

@[simp] theorem queueTag_keeps (s : State) (t : TankId) (op : TagOp) :
    (s.queueTag t op).editions = s.editions ∧ (s.queueTag t op).desk = s.desk ∧
    (s.queueTag t op).costing = s.costing ∧ (s.queueTag t op).supply = s.supply ∧
    (s.queueTag t op).media = s.media ∧ (s.queueTag t op).engine = s.engine ∧
    (s.queueTag t op).cutter = s.cutter ∧ (s.queueTag t op).colour = s.colour ∧ (s.queueTag t op).run = s.run ∧
    (s.queueTag t op).link = s.link ∧ (s.queueTag t op).notices = s.notices ∧ (s.queueTag t op).date = s.date ∧
    (s.queueTag t op).out = s.out ∧ (s.queueTag t op).pending = s.pending := by
  simp [State.queueTag]

@[simp] theorem serveTags_keeps (s : State) :
    s.serveTags.editions = s.editions ∧ s.serveTags.desk = s.desk ∧ s.serveTags.costing = s.costing ∧
    s.serveTags.supply = s.supply ∧ s.serveTags.media = s.media ∧ s.serveTags.engine = s.engine ∧
    s.serveTags.cutter = s.cutter ∧ s.serveTags.colour = s.colour ∧ s.serveTags.run = s.run ∧
    s.serveTags.link = s.link ∧ s.serveTags.notices = s.notices ∧ s.serveTags.date = s.date ∧
    s.serveTags.pending = s.pending := by
  unfold State.serveTags; split <;> (try split) <;> simp

@[simp] theorem retryTag_keeps (s : State) (tx : TagTransaction) :
    (s.retryTag tx).editions = s.editions ∧ (s.retryTag tx).desk = s.desk ∧
    (s.retryTag tx).costing = s.costing ∧ (s.retryTag tx).supply = s.supply ∧ (s.retryTag tx).media = s.media ∧
    (s.retryTag tx).engine = s.engine ∧ (s.retryTag tx).cutter = s.cutter ∧ (s.retryTag tx).colour = s.colour ∧
    (s.retryTag tx).run = s.run ∧ (s.retryTag tx).link = s.link ∧ (s.retryTag tx).notices = s.notices ∧
    (s.retryTag tx).date = s.date ∧ (s.retryTag tx).pending = s.pending := by
  simp [State.retryTag]

@[simp] theorem writeBack_keeps (s : State) (t : TankId) :
    (s.writeBack t).editions = s.editions ∧ (s.writeBack t).desk = s.desk ∧
    (s.writeBack t).costing = s.costing ∧ (s.writeBack t).media = s.media ∧ (s.writeBack t).engine = s.engine ∧
    (s.writeBack t).cutter = s.cutter ∧ (s.writeBack t).colour = s.colour ∧ (s.writeBack t).run = s.run ∧
    (s.writeBack t).link = s.link ∧ (s.writeBack t).notices = s.notices ∧ (s.writeBack t).date = s.date ∧
    (s.writeBack t).out = s.out ∧ (s.writeBack t).pending = s.pending := by
  unfold State.writeBack; split <;> simp

@[simp] theorem writeBackIfNeeded_keeps (s : State) (t : TankId) :
    (s.writeBackIfNeeded t).editions = s.editions ∧ (s.writeBackIfNeeded t).desk = s.desk ∧
    (s.writeBackIfNeeded t).costing = s.costing ∧ (s.writeBackIfNeeded t).media = s.media ∧
    (s.writeBackIfNeeded t).engine = s.engine ∧ (s.writeBackIfNeeded t).cutter = s.cutter ∧
    (s.writeBackIfNeeded t).colour = s.colour ∧ (s.writeBackIfNeeded t).run = s.run ∧
    (s.writeBackIfNeeded t).link = s.link ∧ (s.writeBackIfNeeded t).notices = s.notices ∧
    (s.writeBackIfNeeded t).date = s.date ∧ (s.writeBackIfNeeded t).out = s.out ∧
    (s.writeBackIfNeeded t).pending = s.pending := by
  unfold State.writeBackIfNeeded; split <;> (try split) <;> simp

@[simp] theorem writeBackFeeding_keeps (s : State) :
    s.writeBackFeeding.editions = s.editions ∧ s.writeBackFeeding.desk = s.desk ∧
    s.writeBackFeeding.costing = s.costing ∧ s.writeBackFeeding.media = s.media ∧
    s.writeBackFeeding.engine = s.engine ∧ s.writeBackFeeding.cutter = s.cutter ∧
    s.writeBackFeeding.colour = s.colour ∧ s.writeBackFeeding.run = s.run ∧ s.writeBackFeeding.link = s.link ∧
    s.writeBackFeeding.notices = s.notices ∧ s.writeBackFeeding.date = s.date ∧ s.writeBackFeeding.out = s.out ∧
    s.writeBackFeeding.pending = s.pending := by
  unfold State.writeBackFeeding
  and_intros
  · exact foldl_keeps (fun s : State => s.editions) _ (by intro s x; split <;> simp) _ _
  · exact foldl_keeps (fun s : State => s.desk) _ (by intro s x; split <;> simp) _ _
  · exact foldl_keeps (fun s : State => s.costing) _ (by intro s x; split <;> simp) _ _
  · exact foldl_keeps (fun s : State => s.media) _ (by intro s x; split <;> simp) _ _
  · exact foldl_keeps (fun s : State => s.engine) _ (by intro s x; split <;> simp) _ _
  · exact foldl_keeps (fun s : State => s.cutter) _ (by intro s x; split <;> simp) _ _
  · exact foldl_keeps (fun s : State => s.colour) _ (by intro s x; split <;> simp) _ _
  · exact foldl_keeps (fun s : State => s.run) _ (by intro s x; split <;> simp) _ _
  · exact foldl_keeps (fun s : State => s.link) _ (by intro s x; split <;> simp) _ _
  · exact foldl_keeps (fun s : State => s.notices) _ (by intro s x; split <;> simp) _ _
  · exact foldl_keeps (fun s : State => s.date) _ (by intro s x; split <;> simp) _ _
  · exact foldl_keeps (fun s : State => s.out) _ (by intro s x; split <;> simp) _ _
  · exact foldl_keeps (fun s : State => s.pending) _ (by intro s x; split <;> simp) _ _

@[simp] theorem startSwitch_keeps (s : State) (c : ChannelId) (x : Side) :
    (s.startSwitch c x).editions = s.editions ∧ (s.startSwitch c x).desk = s.desk ∧
    (s.startSwitch c x).costing = s.costing ∧ (s.startSwitch c x).tags = s.tags ∧
    (s.startSwitch c x).media = s.media ∧ (s.startSwitch c x).engine = s.engine ∧
    (s.startSwitch c x).cutter = s.cutter ∧ (s.startSwitch c x).colour = s.colour ∧
    (s.startSwitch c x).run = s.run ∧ (s.startSwitch c x).link = s.link ∧
    (s.startSwitch c x).notices = s.notices ∧ (s.startSwitch c x).date = s.date ∧
    (s.startSwitch c x).out = s.out ∧ (s.startSwitch c x).pending = s.pending := by
  simp [State.startSwitch]

@[simp] theorem switchTest_keeps (s : State) (c : ChannelId) :
    (s.switchTest c).editions = s.editions ∧ (s.switchTest c).desk = s.desk ∧
    (s.switchTest c).costing = s.costing ∧ (s.switchTest c).tags = s.tags ∧ (s.switchTest c).media = s.media ∧
    (s.switchTest c).engine = s.engine ∧ (s.switchTest c).cutter = s.cutter ∧
    (s.switchTest c).colour = s.colour ∧ (s.switchTest c).run = s.run ∧ (s.switchTest c).link = s.link ∧
    (s.switchTest c).notices = s.notices ∧ (s.switchTest c).date = s.date ∧ (s.switchTest c).out = s.out ∧
    (s.switchTest c).pending = s.pending := by
  unfold State.switchTest
  (repeat' split) <;> simp

@[simp] theorem leaveFeeding_keeps (s : State) (t : TankId) :
    (s.leaveFeeding t).editions = s.editions ∧ (s.leaveFeeding t).desk = s.desk ∧
    (s.leaveFeeding t).costing = s.costing ∧ (s.leaveFeeding t).media = s.media ∧
    (s.leaveFeeding t).engine = s.engine ∧ (s.leaveFeeding t).cutter = s.cutter ∧
    (s.leaveFeeding t).colour = s.colour ∧ (s.leaveFeeding t).run = s.run ∧ (s.leaveFeeding t).link = s.link ∧
    (s.leaveFeeding t).notices = s.notices ∧ (s.leaveFeeding t).date = s.date ∧ (s.leaveFeeding t).out = s.out ∧
    (s.leaveFeeding t).pending = s.pending := by
  unfold State.leaveFeeding; split <;> simp

@[simp] theorem loseFeeding_keeps (s : State) (c : ChannelId) :
    (s.loseFeeding c).editions = s.editions ∧ (s.loseFeeding c).desk = s.desk ∧
    (s.loseFeeding c).costing = s.costing ∧ (s.loseFeeding c).tags = s.tags ∧
    (s.loseFeeding c).media = s.media ∧ (s.loseFeeding c).engine = s.engine ∧
    (s.loseFeeding c).cutter = s.cutter ∧ (s.loseFeeding c).colour = s.colour ∧ (s.loseFeeding c).run = s.run ∧
    (s.loseFeeding c).link = s.link ∧ (s.loseFeeding c).date = s.date ∧ (s.loseFeeding c).out = s.out ∧
    (s.loseFeeding c).pending = s.pending := by
  simp [State.loseFeeding]

@[simp] theorem abandonSwitch_keeps (s : State) (c : ChannelId) :
    (s.abandonSwitch c).editions = s.editions ∧ (s.abandonSwitch c).desk = s.desk ∧
    (s.abandonSwitch c).costing = s.costing ∧ (s.abandonSwitch c).media = s.media ∧
    (s.abandonSwitch c).engine = s.engine ∧ (s.abandonSwitch c).cutter = s.cutter ∧
    (s.abandonSwitch c).colour = s.colour ∧ (s.abandonSwitch c).run = s.run ∧
    (s.abandonSwitch c).link = s.link ∧ (s.abandonSwitch c).date = s.date ∧ (s.abandonSwitch c).out = s.out ∧
    (s.abandonSwitch c).pending = s.pending := by
  unfold State.abandonSwitch; split <;> simp

@[simp] theorem inkTicket_keeps (s : State) (c : ChannelId) (t : Option TicketId) (d beyond : Nat) :
    (s.inkTicket c t d beyond).editions = s.editions ∧ (s.inkTicket c t d beyond).costing = s.costing ∧
    (s.inkTicket c t d beyond).supply = s.supply ∧ (s.inkTicket c t d beyond).tags = s.tags ∧
    (s.inkTicket c t d beyond).media = s.media ∧ (s.inkTicket c t d beyond).engine = s.engine ∧
    (s.inkTicket c t d beyond).cutter = s.cutter ∧ (s.inkTicket c t d beyond).colour = s.colour ∧
    (s.inkTicket c t d beyond).run = s.run ∧ (s.inkTicket c t d beyond).link = s.link ∧
    (s.inkTicket c t d beyond).notices = s.notices ∧ (s.inkTicket c t d beyond).date = s.date ∧
    (s.inkTicket c t d beyond).out = s.out ∧ (s.inkTicket c t d beyond).pending = s.pending := by
  unfold State.inkTicket; split <;> simp

@[simp] theorem overdrawChannel_keeps (s : State) (c : ChannelId) (beyond : Nat) :
    (s.overdrawChannel c beyond).editions = s.editions ∧ (s.overdrawChannel c beyond).desk = s.desk ∧
    (s.overdrawChannel c beyond).costing = s.costing ∧ (s.overdrawChannel c beyond).tags = s.tags ∧
    (s.overdrawChannel c beyond).media = s.media ∧ (s.overdrawChannel c beyond).engine = s.engine ∧
    (s.overdrawChannel c beyond).cutter = s.cutter ∧ (s.overdrawChannel c beyond).colour = s.colour ∧
    (s.overdrawChannel c beyond).run = s.run ∧ (s.overdrawChannel c beyond).link = s.link ∧
    (s.overdrawChannel c beyond).notices = s.notices ∧ (s.overdrawChannel c beyond).date = s.date ∧
    (s.overdrawChannel c beyond).out = s.out ∧ (s.overdrawChannel c beyond).pending = s.pending := by
  simp [State.overdrawChannel]

@[simp] theorem runDry_keeps (s : State) (c : ChannelId) :
    (s.runDry c).editions = s.editions ∧ (s.runDry c).desk = s.desk ∧ (s.runDry c).costing = s.costing ∧
    (s.runDry c).media = s.media ∧ (s.runDry c).engine = s.engine ∧ (s.runDry c).cutter = s.cutter ∧
    (s.runDry c).colour = s.colour ∧ (s.runDry c).run = s.run ∧ (s.runDry c).link = s.link ∧
    (s.runDry c).date = s.date ∧ (s.runDry c).out = s.out ∧ (s.runDry c).pending = s.pending := by
  unfold State.runDry; dsimp only
  (repeat' split) <;> simp

@[simp] theorem afterDebit_keeps (s : State) (c : ChannelId) (slot : TankId) (before : Nat) :
    (s.afterDebit c slot before).editions = s.editions ∧ (s.afterDebit c slot before).desk = s.desk ∧
    (s.afterDebit c slot before).costing = s.costing ∧ (s.afterDebit c slot before).media = s.media ∧
    (s.afterDebit c slot before).engine = s.engine ∧ (s.afterDebit c slot before).cutter = s.cutter ∧
    (s.afterDebit c slot before).colour = s.colour ∧ (s.afterDebit c slot before).run = s.run ∧
    (s.afterDebit c slot before).link = s.link ∧ (s.afterDebit c slot before).date = s.date ∧
    (s.afterDebit c slot before).out = s.out ∧ (s.afterDebit c slot before).pending = s.pending := by
  unfold State.afterDebit; dsimp only
  (repeat' split) <;> simp

@[simp] theorem debit_keeps (s : State) (c : ChannelId) (d : Nat) (t : Option TicketId) :
    (s.debit c d t).1.editions = s.editions ∧ (s.debit c d t).1.costing = s.costing ∧
    (s.debit c d t).1.media = s.media ∧ (s.debit c d t).1.engine = s.engine ∧
    (s.debit c d t).1.cutter = s.cutter ∧ (s.debit c d t).1.colour = s.colour ∧ (s.debit c d t).1.run = s.run ∧
    (s.debit c d t).1.link = s.link ∧ (s.debit c d t).1.date = s.date ∧ (s.debit c d t).1.out = s.out ∧
    (s.debit c d t).1.pending = s.pending := by
  unfold State.debit; dsimp only
  (repeat' split) <;> simp

@[simp] theorem removeAction_keeps (s : State) (p : StopKind → Bool) (t : TicketId) :
    (s.removeAction p t).editions = s.editions ∧ (s.removeAction p t).desk = s.desk ∧
    (s.removeAction p t).costing = s.costing ∧ (s.removeAction p t).supply = s.supply ∧
    (s.removeAction p t).tags = s.tags ∧ (s.removeAction p t).engine = s.engine ∧
    (s.removeAction p t).cutter = s.cutter ∧ (s.removeAction p t).colour = s.colour ∧
    (s.removeAction p t).run = s.run ∧ (s.removeAction p t).link = s.link ∧
    (s.removeAction p t).notices = s.notices ∧ (s.removeAction p t).date = s.date ∧
    (s.removeAction p t).out = s.out ∧ (s.removeAction p t).pending = s.pending := by
  simp [State.removeAction]

@[simp] theorem withdrawPatch_keeps (s : State) (t : TicketId) :
    (s.withdrawPatch t).editions = s.editions ∧ (s.withdrawPatch t).desk = s.desk ∧
    (s.withdrawPatch t).costing = s.costing ∧ (s.withdrawPatch t).supply = s.supply ∧
    (s.withdrawPatch t).tags = s.tags ∧ (s.withdrawPatch t).engine = s.engine ∧
    (s.withdrawPatch t).cutter = s.cutter ∧ (s.withdrawPatch t).colour = s.colour ∧
    (s.withdrawPatch t).run = s.run ∧ (s.withdrawPatch t).link = s.link ∧
    (s.withdrawPatch t).notices = s.notices ∧ (s.withdrawPatch t).date = s.date ∧
    (s.withdrawPatch t).out = s.out ∧ (s.withdrawPatch t).pending = s.pending := by
  simp [State.withdrawPatch]

@[simp] theorem cutFee_keeps (s : State) (kind : CutKind) (t : TicketId) :
    (s.cutFee kind t).editions = s.editions ∧ (s.cutFee kind t).supply = s.supply ∧
    (s.cutFee kind t).tags = s.tags ∧ (s.cutFee kind t).media = s.media ∧ (s.cutFee kind t).engine = s.engine ∧
    (s.cutFee kind t).cutter = s.cutter ∧ (s.cutFee kind t).colour = s.colour ∧ (s.cutFee kind t).run = s.run ∧
    (s.cutFee kind t).link = s.link ∧ (s.cutFee kind t).notices = s.notices ∧ (s.cutFee kind t).date = s.date ∧
    (s.cutFee kind t).out = s.out ∧ (s.cutFee kind t).pending = s.pending := by
  unfold State.cutFee
  (repeat' split) <;> simp

@[simp] theorem completeCut_keeps (s : State) (kind : CutKind) (t : TicketId) :
    (s.completeCut kind t).supply = s.supply ∧ (s.completeCut kind t).tags = s.tags ∧
    (s.completeCut kind t).engine = s.engine ∧ (s.completeCut kind t).cutter = s.cutter ∧
    (s.completeCut kind t).colour = s.colour ∧ (s.completeCut kind t).link = s.link ∧
    (s.completeCut kind t).date = s.date ∧ (s.completeCut kind t).pending = s.pending := by
  unfold State.completeCut; split <;> (try split) <;> simp

@[simp] theorem startTraverse_keeps (s : State) (h : HeldCut) :
    (s.startTraverse h).editions = s.editions ∧ (s.startTraverse h).desk = s.desk ∧
    (s.startTraverse h).costing = s.costing ∧ (s.startTraverse h).supply = s.supply ∧
    (s.startTraverse h).tags = s.tags ∧ (s.startTraverse h).media = s.media ∧
    (s.startTraverse h).engine = s.engine ∧ (s.startTraverse h).colour = s.colour ∧
    (s.startTraverse h).run = s.run ∧ (s.startTraverse h).link = s.link ∧
    (s.startTraverse h).notices = s.notices ∧ (s.startTraverse h).date = s.date ∧
    (s.startTraverse h).out = s.out ∧ (s.startTraverse h).pending = s.pending := by
  simp [State.startTraverse]

@[simp] theorem handCut_keeps (s : State) (kind : CutKind) (t : TicketId) :
    (s.handCut kind t).editions = s.editions ∧ (s.handCut kind t).desk = s.desk ∧
    (s.handCut kind t).costing = s.costing ∧ (s.handCut kind t).supply = s.supply ∧
    (s.handCut kind t).tags = s.tags ∧ (s.handCut kind t).media = s.media ∧
    (s.handCut kind t).engine = s.engine ∧ (s.handCut kind t).colour = s.colour ∧
    (s.handCut kind t).run = s.run ∧ (s.handCut kind t).link = s.link ∧ (s.handCut kind t).date = s.date ∧
    (s.handCut kind t).out = s.out ∧ (s.handCut kind t).pending = s.pending := by
  unfold State.handCut; split <;> simp

@[simp] theorem endCut_keeps (s : State) (h : HeldCut) :
    (s.endCut h).supply = s.supply ∧ (s.endCut h).tags = s.tags ∧ (s.endCut h).engine = s.engine ∧
    (s.endCut h).colour = s.colour ∧ (s.endCut h).link = s.link ∧ (s.endCut h).date = s.date ∧
    (s.endCut h).pending = s.pending := by
  unfold State.endCut; dsimp only
  (repeat' split) <;> simp

@[simp] theorem sendCalibrate_keeps (s : State) :
    s.sendCalibrate.editions = s.editions ∧ s.sendCalibrate.desk = s.desk ∧
    s.sendCalibrate.costing = s.costing ∧ s.sendCalibrate.supply = s.supply ∧ s.sendCalibrate.tags = s.tags ∧
    s.sendCalibrate.media = s.media ∧ s.sendCalibrate.engine = s.engine ∧ s.sendCalibrate.cutter = s.cutter ∧
    s.sendCalibrate.run = s.run ∧ s.sendCalibrate.link = s.link ∧ s.sendCalibrate.notices = s.notices ∧
    s.sendCalibrate.date = s.date ∧ s.sendCalibrate.pending = s.pending := by
  simp [State.sendCalibrate]

@[simp] theorem sendMeasure_keeps (s : State) (patches : Nat) :
    (s.sendMeasure patches).editions = s.editions ∧ (s.sendMeasure patches).desk = s.desk ∧
    (s.sendMeasure patches).costing = s.costing ∧ (s.sendMeasure patches).supply = s.supply ∧
    (s.sendMeasure patches).tags = s.tags ∧ (s.sendMeasure patches).media = s.media ∧
    (s.sendMeasure patches).engine = s.engine ∧ (s.sendMeasure patches).cutter = s.cutter ∧
    (s.sendMeasure patches).run = s.run ∧ (s.sendMeasure patches).link = s.link ∧
    (s.sendMeasure patches).notices = s.notices ∧ (s.sendMeasure patches).date = s.date ∧
    (s.sendMeasure patches).pending = s.pending := by
  simp [State.sendMeasure]

@[simp] theorem writeVerdict_keeps (s : State) (t : TicketId) (e : ReadEnd) :
    (s.writeVerdict t e).editions = s.editions ∧ (s.writeVerdict t e).costing = s.costing ∧
    (s.writeVerdict t e).supply = s.supply ∧ (s.writeVerdict t e).tags = s.tags ∧
    (s.writeVerdict t e).media = s.media ∧ (s.writeVerdict t e).engine = s.engine ∧
    (s.writeVerdict t e).cutter = s.cutter ∧ (s.writeVerdict t e).colour = s.colour ∧
    (s.writeVerdict t e).run = s.run ∧ (s.writeVerdict t e).link = s.link ∧ (s.writeVerdict t e).date = s.date ∧
    (s.writeVerdict t e).out = s.out ∧ (s.writeVerdict t e).pending = s.pending := by
  unfold State.writeVerdict; split <;> simp

@[simp] theorem checkFee_keeps (s : State) (t : TicketId) (e : ReadEnd) :
    (s.checkFee t e).editions = s.editions ∧ (s.checkFee t e).costing = s.costing ∧
    (s.checkFee t e).supply = s.supply ∧ (s.checkFee t e).tags = s.tags ∧ (s.checkFee t e).media = s.media ∧
    (s.checkFee t e).engine = s.engine ∧ (s.checkFee t e).cutter = s.cutter ∧
    (s.checkFee t e).colour = s.colour ∧ (s.checkFee t e).run = s.run ∧ (s.checkFee t e).link = s.link ∧
    (s.checkFee t e).notices = s.notices ∧ (s.checkFee t e).date = s.date ∧ (s.checkFee t e).out = s.out ∧
    (s.checkFee t e).pending = s.pending := by
  unfold State.checkFee; split <;> simp

@[simp] theorem endRead_keeps (s : State) (t : TicketId) (e : ReadEnd) :
    (s.endRead t e).editions = s.editions ∧ (s.endRead t e).costing = s.costing ∧
    (s.endRead t e).supply = s.supply ∧ (s.endRead t e).tags = s.tags ∧ (s.endRead t e).engine = s.engine ∧
    (s.endRead t e).cutter = s.cutter ∧ (s.endRead t e).colour = s.colour ∧ (s.endRead t e).run = s.run ∧
    (s.endRead t e).link = s.link ∧ (s.endRead t e).date = s.date ∧ (s.endRead t e).out = s.out ∧
    (s.endRead t e).pending = s.pending := by
  simp [State.endRead]

@[simp] theorem handRead_keeps (s : State) (t : TicketId) :
    (s.handRead t).editions = s.editions ∧ (s.handRead t).costing = s.costing ∧
    (s.handRead t).supply = s.supply ∧ (s.handRead t).cutter = s.cutter ∧ (s.handRead t).link = s.link ∧
    (s.handRead t).date = s.date ∧ (s.handRead t).pending = s.pending := by
  unfold State.handRead; dsimp only
  (repeat' split) <;> simp

@[simp] theorem handAction_keeps (s : State) (a : StopAction) :
    (s.handAction a).editions = s.editions ∧ (s.handAction a).costing = s.costing ∧
    (s.handAction a).supply = s.supply ∧ (s.handAction a).link = s.link ∧ (s.handAction a).date = s.date ∧
    (s.handAction a).pending = s.pending := by
  unfold State.handAction; split <;> simp

@[simp] theorem handAll_keeps (s : State) (as : List StopAction) :
    (s.handAll as).editions = s.editions ∧ (s.handAll as).costing = s.costing ∧
    (s.handAll as).supply = s.supply ∧ (s.handAll as).link = s.link ∧ (s.handAll as).date = s.date ∧
    (s.handAll as).pending = s.pending := by
  unfold State.handAll
  and_intros
  · exact foldl_keeps (fun s : State => s.editions) _ (by simp) _ _
  · exact foldl_keeps (fun s : State => s.costing) _ (by simp) _ _
  · exact foldl_keeps (fun s : State => s.supply) _ (by simp) _ _
  · exact foldl_keeps (fun s : State => s.link) _ (by simp) _ _
  · exact foldl_keeps (fun s : State => s.date) _ (by simp) _ _
  · exact foldl_keeps (fun s : State => s.pending) _ (by simp) _ _

@[simp] theorem reachStop_keeps (s : State) :
    s.reachStop.editions = s.editions ∧ s.reachStop.costing = s.costing ∧ s.reachStop.supply = s.supply ∧
    s.reachStop.link = s.link ∧ s.reachStop.date = s.date ∧ s.reachStop.pending = s.pending := by
  unfold State.reachStop; split <;> (try split) <;> simp

@[simp] theorem creditTicket_keeps (s : State) (t : TicketId) (f : Nat) :
    (s.creditTicket t f).editions = s.editions ∧ (s.creditTicket t f).costing = s.costing ∧
    (s.creditTicket t f).supply = s.supply ∧ (s.creditTicket t f).tags = s.tags ∧
    (s.creditTicket t f).media = s.media ∧ (s.creditTicket t f).engine = s.engine ∧
    (s.creditTicket t f).cutter = s.cutter ∧ (s.creditTicket t f).colour = s.colour ∧
    (s.creditTicket t f).run = s.run ∧ (s.creditTicket t f).link = s.link ∧
    (s.creditTicket t f).notices = s.notices ∧ (s.creditTicket t f).date = s.date ∧
    (s.creditTicket t f).out = s.out ∧ (s.creditTicket t f).pending = s.pending := by
  unfold State.creditTicket; split <;> simp

@[simp] theorem replaceStart_keeps (s : State) (served : Option TicketId) (f : Nat) :
    (s.replaceStart served f).editions = s.editions ∧ (s.replaceStart served f).costing = s.costing ∧
    (s.replaceStart served f).supply = s.supply ∧ (s.replaceStart served f).tags = s.tags ∧
    (s.replaceStart served f).engine = s.engine ∧ (s.replaceStart served f).cutter = s.cutter ∧
    (s.replaceStart served f).colour = s.colour ∧ (s.replaceStart served f).run = s.run ∧
    (s.replaceStart served f).link = s.link ∧ (s.replaceStart served f).notices = s.notices ∧
    (s.replaceStart served f).date = s.date ∧ (s.replaceStart served f).out = s.out ∧
    (s.replaceStart served f).pending = s.pending := by
  unfold State.replaceStart; dsimp only
  (repeat' split) <;> simp

@[simp] theorem fedReachesL_keeps (s : State) (served : Option TicketId) (f : Nat) :
    (s.fedReachesL served f).editions = s.editions ∧ (s.fedReachesL served f).costing = s.costing ∧
    (s.fedReachesL served f).supply = s.supply ∧ (s.fedReachesL served f).tags = s.tags ∧
    (s.fedReachesL served f).engine = s.engine ∧ (s.fedReachesL served f).cutter = s.cutter ∧
    (s.fedReachesL served f).colour = s.colour ∧ (s.fedReachesL served f).run = s.run ∧
    (s.fedReachesL served f).link = s.link ∧ (s.fedReachesL served f).notices = s.notices ∧
    (s.fedReachesL served f).date = s.date ∧ (s.fedReachesL served f).pending = s.pending := by
  unfold State.fedReachesL; dsimp only
  (repeat' split) <;> simp

@[simp] theorem takeFed_keeps (s : State) (served : Option TicketId) (f : Nat) :
    (s.takeFed served f).editions = s.editions ∧ (s.takeFed served f).costing = s.costing ∧
    (s.takeFed served f).supply = s.supply ∧ (s.takeFed served f).link = s.link ∧
    (s.takeFed served f).date = s.date ∧ (s.takeFed served f).pending = s.pending := by
  unfold State.takeFed; split <;> simp

end Sys2Proof.Machine
end

