-- ==== Sys2Proof/Laws/FramesEngine.lean ====
section
/-! SUPPORT. What each shared operation of the engine leaves as it was: one lemma per
operation, over every block of the state that it does not touch. -/

namespace Sys2Proof.Machine

open Sys2Proof

@[simp] theorem haltRun_keeps (s : State) (halt : HaltCause) :
    (s.haltRun halt).editions = s.editions ∧ (s.haltRun halt).desk = s.desk ∧
    (s.haltRun halt).costing = s.costing ∧ (s.haltRun halt).supply = s.supply ∧ (s.haltRun halt).tags = s.tags ∧
    (s.haltRun halt).media = s.media ∧ (s.haltRun halt).engine = s.engine ∧ (s.haltRun halt).cutter = s.cutter ∧
    (s.haltRun halt).colour = s.colour ∧ (s.haltRun halt).link = s.link ∧ (s.haltRun halt).date = s.date ∧
    (s.haltRun halt).out = s.out ∧ (s.haltRun halt).pending = s.pending := by
  simp [State.haltRun]

@[simp] theorem denyRequest_keeps (s : State) (p : TicketId → Bool) :
    (s.denyRequest p).editions = s.editions ∧ (s.denyRequest p).desk = s.desk ∧
    (s.denyRequest p).costing = s.costing ∧ (s.denyRequest p).supply = s.supply ∧
    (s.denyRequest p).tags = s.tags ∧ (s.denyRequest p).media = s.media ∧ (s.denyRequest p).cutter = s.cutter ∧
    (s.denyRequest p).colour = s.colour ∧ (s.denyRequest p).run = s.run ∧ (s.denyRequest p).link = s.link ∧
    (s.denyRequest p).notices = s.notices ∧ (s.denyRequest p).date = s.date ∧
    (s.denyRequest p).pending = s.pending := by
  unfold State.denyRequest; split <;> (try split) <;> simp

@[simp] theorem abortEngine_keeps (s : State) :
    s.abortEngine.editions = s.editions ∧ s.abortEngine.desk = s.desk ∧ s.abortEngine.costing = s.costing ∧
    s.abortEngine.supply = s.supply ∧ s.abortEngine.tags = s.tags ∧ s.abortEngine.media = s.media ∧
    s.abortEngine.cutter = s.cutter ∧ s.abortEngine.colour = s.colour ∧ s.abortEngine.run = s.run ∧
    s.abortEngine.link = s.link ∧ s.abortEngine.notices = s.notices ∧ s.abortEngine.date = s.date ∧
    s.abortEngine.pending = s.pending := by
  simp [State.abortEngine]

@[simp] theorem closeAll_keeps (s : State) (ts : List TicketId) (cause : SpoilCause) :
    (s.closeAll ts cause).costing = s.costing ∧ (s.closeAll ts cause).supply = s.supply ∧
    (s.closeAll ts cause).tags = s.tags ∧ (s.closeAll ts cause).engine = s.engine ∧
    (s.closeAll ts cause).cutter = s.cutter ∧ (s.closeAll ts cause).colour = s.colour ∧
    (s.closeAll ts cause).link = s.link ∧ (s.closeAll ts cause).date = s.date ∧
    (s.closeAll ts cause).pending = s.pending := by
  unfold State.closeAll
  and_intros
  · exact foldl_keeps (fun s : State => s.costing) _ (by simp) _ _
  · exact foldl_keeps (fun s : State => s.supply) _ (by simp) _ _
  · exact foldl_keeps (fun s : State => s.tags) _ (by simp) _ _
  · exact foldl_keeps (fun s : State => s.engine) _ (by simp) _ _
  · exact foldl_keeps (fun s : State => s.cutter) _ (by simp) _ _
  · exact foldl_keeps (fun s : State => s.colour) _ (by simp) _ _
  · exact foldl_keeps (fun s : State => s.link) _ (by simp) _ _
  · exact foldl_keeps (fun s : State => s.date) _ (by simp) _ _
  · exact foldl_keeps (fun s : State => s.pending) _ (by simp) _ _

@[simp] theorem stopTickets_keeps (s : State) (cause : SpoilCause) :
    (s.stopTickets cause).costing = s.costing ∧ (s.stopTickets cause).supply = s.supply ∧
    (s.stopTickets cause).tags = s.tags ∧ (s.stopTickets cause).engine = s.engine ∧
    (s.stopTickets cause).cutter = s.cutter ∧ (s.stopTickets cause).colour = s.colour ∧
    (s.stopTickets cause).link = s.link ∧ (s.stopTickets cause).date = s.date ∧
    (s.stopTickets cause).pending = s.pending := by
  simp [State.stopTickets]

@[simp] theorem stopPath_keeps (s : State) :
    s.stopPath.editions = s.editions ∧ s.stopPath.desk = s.desk ∧ s.stopPath.costing = s.costing ∧
    s.stopPath.supply = s.supply ∧ s.stopPath.tags = s.tags ∧ s.stopPath.engine = s.engine ∧
    s.stopPath.cutter = s.cutter ∧ s.stopPath.colour = s.colour ∧ s.stopPath.run = s.run ∧
    s.stopPath.link = s.link ∧ s.stopPath.notices = s.notices ∧ s.stopPath.date = s.date ∧
    s.stopPath.out = s.out ∧ s.stopPath.pending = s.pending := by
  simp [State.stopPath]

@[simp] theorem stopUnits_keeps (s : State) :
    s.stopUnits.editions = s.editions ∧ s.stopUnits.desk = s.desk ∧ s.stopUnits.costing = s.costing ∧
    s.stopUnits.supply = s.supply ∧ s.stopUnits.tags = s.tags ∧ s.stopUnits.media = s.media ∧
    s.stopUnits.engine = s.engine ∧ s.stopUnits.run = s.run ∧ s.stopUnits.link = s.link ∧
    s.stopUnits.notices = s.notices ∧ s.stopUnits.date = s.date ∧ s.stopUnits.out = s.out ∧
    s.stopUnits.pending = s.pending := by
  simp [State.stopUnits]

@[simp] theorem stopNow_keeps (s : State) (halt : HaltCause) (cause : SpoilCause) :
    (s.stopNow halt cause).costing = s.costing ∧ (s.stopNow halt cause).link = s.link ∧
    (s.stopNow halt cause).date = s.date ∧ (s.stopNow halt cause).pending = s.pending := by
  unfold State.stopNow; split <;> simp

@[simp] theorem protocolError_keeps (s : State) :
    s.protocolError.costing = s.costing ∧ s.protocolError.link = s.link ∧ s.protocolError.date = s.date ∧
    s.protocolError.pending = s.pending := by
  unfold State.protocolError; split <;> simp

@[simp] theorem startPause_keeps (s : State) (t : TicketId) :
    (s.startPause t).editions = s.editions ∧ (s.startPause t).costing = s.costing ∧
    (s.startPause t).supply = s.supply ∧ (s.startPause t).tags = s.tags ∧ (s.startPause t).media = s.media ∧
    (s.startPause t).engine = s.engine ∧ (s.startPause t).cutter = s.cutter ∧
    (s.startPause t).colour = s.colour ∧ (s.startPause t).run = s.run ∧ (s.startPause t).link = s.link ∧
    (s.startPause t).notices = s.notices ∧ (s.startPause t).date = s.date ∧ (s.startPause t).out = s.out ∧
    (s.startPause t).pending = s.pending := by
  simp [State.startPause]

@[simp] theorem holdTest_keeps (s : State) :
    s.holdTest.editions = s.editions ∧ s.holdTest.costing = s.costing ∧ s.holdTest.supply = s.supply ∧
    s.holdTest.tags = s.tags ∧ s.holdTest.media = s.media ∧ s.holdTest.cutter = s.cutter ∧
    s.holdTest.colour = s.colour ∧ s.holdTest.run = s.run ∧ s.holdTest.link = s.link ∧
    s.holdTest.notices = s.notices ∧ s.holdTest.date = s.date ∧ s.holdTest.out = s.out ∧
    s.holdTest.pending = s.pending := by
  unfold State.holdTest; split <;> (try split) <;> simp

@[simp] theorem wakeEnd_keeps (s : State) :
    s.wakeEnd.editions = s.editions ∧ s.wakeEnd.costing = s.costing ∧ s.wakeEnd.supply = s.supply ∧
    s.wakeEnd.tags = s.tags ∧ s.wakeEnd.engine = s.engine ∧ s.wakeEnd.cutter = s.cutter ∧
    s.wakeEnd.colour = s.colour ∧ s.wakeEnd.link = s.link ∧ s.wakeEnd.notices = s.notices ∧
    s.wakeEnd.date = s.date ∧ s.wakeEnd.pending = s.pending := by
  unfold State.wakeEnd; dsimp only
  (repeat' split) <;> simp

@[simp] theorem present_keeps (s : State) :
    s.present.editions = s.editions ∧ s.present.desk = s.desk ∧ s.present.costing = s.costing ∧
    s.present.supply = s.supply ∧ s.present.tags = s.tags ∧ s.present.media = s.media ∧
    s.present.engine = s.engine ∧ s.present.cutter = s.cutter ∧ s.present.colour = s.colour ∧
    s.present.link = s.link ∧ s.present.notices = s.notices ∧ s.present.date = s.date ∧ s.present.out = s.out ∧
    s.present.pending = s.pending := by
  unfold State.present; split <;> simp

@[simp] theorem emptySlot_keeps (s : State) :
    s.emptySlot.editions = s.editions ∧ s.emptySlot.desk = s.desk ∧ s.emptySlot.costing = s.costing ∧
    s.emptySlot.supply = s.supply ∧ s.emptySlot.tags = s.tags ∧ s.emptySlot.media = s.media ∧
    s.emptySlot.engine = s.engine ∧ s.emptySlot.cutter = s.cutter ∧ s.emptySlot.colour = s.colour ∧
    s.emptySlot.link = s.link ∧ s.emptySlot.notices = s.notices ∧ s.emptySlot.date = s.date ∧
    s.emptySlot.out = s.out ∧ s.emptySlot.pending = s.pending := by
  simp [State.emptySlot]

@[simp] theorem beginOp_keeps (s : State) (kind : EngineOpKind) (m : EngineMessage) :
    (s.beginOp kind m).editions = s.editions ∧ (s.beginOp kind m).desk = s.desk ∧
    (s.beginOp kind m).costing = s.costing ∧ (s.beginOp kind m).supply = s.supply ∧
    (s.beginOp kind m).tags = s.tags ∧ (s.beginOp kind m).media = s.media ∧
    (s.beginOp kind m).cutter = s.cutter ∧ (s.beginOp kind m).colour = s.colour ∧
    (s.beginOp kind m).run = s.run ∧ (s.beginOp kind m).link = s.link ∧ (s.beginOp kind m).notices = s.notices ∧
    (s.beginOp kind m).date = s.date ∧ (s.beginOp kind m).pending = s.pending := by
  simp [State.beginOp]

@[simp] theorem sendHead_keeps (s : State) (op : HeadOp) (kind : EngineOpKind) (m : EngineMessage) :
    (s.sendHead op kind m).editions = s.editions ∧ (s.sendHead op kind m).desk = s.desk ∧
    (s.sendHead op kind m).costing = s.costing ∧ (s.sendHead op kind m).supply = s.supply ∧
    (s.sendHead op kind m).tags = s.tags ∧ (s.sendHead op kind m).media = s.media ∧
    (s.sendHead op kind m).cutter = s.cutter ∧ (s.sendHead op kind m).colour = s.colour ∧
    (s.sendHead op kind m).link = s.link ∧ (s.sendHead op kind m).notices = s.notices ∧
    (s.sendHead op kind m).date = s.date ∧ (s.sendHead op kind m).pending = s.pending := by
  simp [State.sendHead]

@[simp] theorem sendPurge_keeps (s : State) (kind : PurgeKind) (set : ChannelSet) (v : Vector Nat 12) :
    (s.sendPurge kind set v).editions = s.editions ∧ (s.sendPurge kind set v).desk = s.desk ∧
    (s.sendPurge kind set v).costing = s.costing ∧ (s.sendPurge kind set v).supply = s.supply ∧
    (s.sendPurge kind set v).tags = s.tags ∧ (s.sendPurge kind set v).media = s.media ∧
    (s.sendPurge kind set v).cutter = s.cutter ∧ (s.sendPurge kind set v).colour = s.colour ∧
    (s.sendPurge kind set v).link = s.link ∧ (s.sendPurge kind set v).notices = s.notices ∧
    (s.sendPurge kind set v).date = s.date ∧ (s.sendPurge kind set v).pending = s.pending := by
  simp [State.sendPurge]

@[simp] theorem sendWakePurge_keeps (s : State) (lvl : Level) :
    (s.sendWakePurge lvl).editions = s.editions ∧ (s.sendWakePurge lvl).costing = s.costing ∧
    (s.sendWakePurge lvl).supply = s.supply ∧ (s.sendWakePurge lvl).tags = s.tags ∧
    (s.sendWakePurge lvl).cutter = s.cutter ∧ (s.sendWakePurge lvl).colour = s.colour ∧
    (s.sendWakePurge lvl).link = s.link ∧ (s.sendWakePurge lvl).notices = s.notices ∧
    (s.sendWakePurge lvl).date = s.date ∧ (s.sendWakePurge lvl).pending = s.pending := by
  unfold State.sendWakePurge; dsimp only; split <;> simp

@[simp] theorem sendSinglePurge_keeps (s : State) (c : ChannelId) :
    (s.sendSinglePurge c).editions = s.editions ∧ (s.sendSinglePurge c).desk = s.desk ∧
    (s.sendSinglePurge c).costing = s.costing ∧ (s.sendSinglePurge c).supply = s.supply ∧
    (s.sendSinglePurge c).tags = s.tags ∧ (s.sendSinglePurge c).media = s.media ∧
    (s.sendSinglePurge c).cutter = s.cutter ∧ (s.sendSinglePurge c).colour = s.colour ∧
    (s.sendSinglePurge c).link = s.link ∧ (s.sendSinglePurge c).notices = s.notices ∧
    (s.sendSinglePurge c).date = s.date ∧ (s.sendSinglePurge c).pending = s.pending := by
  unfold State.sendSinglePurge; dsimp only
  (repeat' split) <;> simp

@[simp] theorem sendManualPurge_keeps (s : State) :
    s.sendManualPurge.editions = s.editions ∧ s.sendManualPurge.desk = s.desk ∧
    s.sendManualPurge.costing = s.costing ∧ s.sendManualPurge.supply = s.supply ∧
    s.sendManualPurge.tags = s.tags ∧ s.sendManualPurge.media = s.media ∧ s.sendManualPurge.cutter = s.cutter ∧
    s.sendManualPurge.colour = s.colour ∧ s.sendManualPurge.link = s.link ∧
    s.sendManualPurge.notices = s.notices ∧ s.sendManualPurge.date = s.date ∧
    s.sendManualPurge.pending = s.pending := by
  unfold State.sendManualPurge; dsimp only
  (repeat' split) <;> simp

@[simp] theorem sendPresented_keeps (s : State) (op : HeadOp) :
    (s.sendPresented op).editions = s.editions ∧ (s.sendPresented op).costing = s.costing ∧
    (s.sendPresented op).supply = s.supply ∧ (s.sendPresented op).tags = s.tags ∧
    (s.sendPresented op).cutter = s.cutter ∧ (s.sendPresented op).colour = s.colour ∧
    (s.sendPresented op).link = s.link ∧ (s.sendPresented op).notices = s.notices ∧
    (s.sendPresented op).date = s.date ∧ (s.sendPresented op).pending = s.pending := by
  unfold State.sendPresented; split <;> (try split) <;> simp

@[simp] theorem grant_keeps (s : State) (q : SwathRequest) :
    (s.grant q).editions = s.editions ∧ (s.grant q).costing = s.costing ∧ (s.grant q).supply = s.supply ∧
    (s.grant q).tags = s.tags ∧ (s.grant q).media = s.media ∧ (s.grant q).cutter = s.cutter ∧
    (s.grant q).colour = s.colour ∧ (s.grant q).run = s.run ∧ (s.grant q).link = s.link ∧
    (s.grant q).notices = s.notices ∧ (s.grant q).date = s.date ∧ (s.grant q).pending = s.pending := by
  unfold State.grant; split <;> (try split) <;> simp

@[simp] theorem feedOrGrant_keeps (s : State) :
    s.feedOrGrant.editions = s.editions ∧ s.feedOrGrant.costing = s.costing ∧ s.feedOrGrant.supply = s.supply ∧
    s.feedOrGrant.tags = s.tags ∧ s.feedOrGrant.media = s.media ∧ s.feedOrGrant.cutter = s.cutter ∧
    s.feedOrGrant.colour = s.colour ∧ s.feedOrGrant.run = s.run ∧ s.feedOrGrant.link = s.link ∧
    s.feedOrGrant.notices = s.notices ∧ s.feedOrGrant.date = s.date ∧ s.feedOrGrant.pending = s.pending := by
  unfold State.feedOrGrant
  (repeat' split) <;> simp

@[simp] theorem arbitrate_keeps (n : Nat) (s : State) :
    (State.arbitrate n s).editions = s.editions ∧ (State.arbitrate n s).costing = s.costing ∧
    (State.arbitrate n s).supply = s.supply ∧ (State.arbitrate n s).tags = s.tags ∧
    (State.arbitrate n s).cutter = s.cutter ∧ (State.arbitrate n s).colour = s.colour ∧
    (State.arbitrate n s).link = s.link ∧ (State.arbitrate n s).notices = s.notices ∧
    (State.arbitrate n s).date = s.date ∧ (State.arbitrate n s).pending = s.pending := by
  induction n generalizing s with
  | zero => simp [State.arbitrate]
  | succ n ih => unfold State.arbitrate; dsimp only; repeat' split
                 all_goals simp_all

/-- The end of an event may change tickets, the path, the engine, the run, the bus, and what is sent; nothing
else. -/
@[simp] theorem settle_keeps (s before : State) :
    (s.settle before).editions = s.editions ∧ (s.settle before).costing = s.costing ∧
    (s.settle before).supply = s.supply ∧ (s.settle before).cutter = s.cutter ∧
    (s.settle before).colour = s.colour ∧ (s.settle before).link = s.link ∧
    (s.settle before).notices = s.notices ∧ (s.settle before).date = s.date ∧
    (s.settle before).pending = s.pending := by
  simp [State.settle]

@[simp] theorem settled_reply (s before : State) (b : ReplyBody) : (settled s before b).2 = ⟨.ok, b⟩ := rfl

@[simp] theorem settled_state (s before : State) (b : ReplyBody) : (settled s before b).1 = s.settle before := rfl

@[simp] theorem accept_reply (s : State) (b : ReplyBody) : (accept s b).2 = ⟨.ok, b⟩ := rfl

@[simp] theorem accept_state (s : State) (b : ReplyBody) : (accept s b).1 = s := rfl

@[simp] theorem refuse_reply (st : Status) (s : State) : (refuse st s).2 = ⟨st, .empty⟩ := rfl

@[simp] theorem refuse_state (st : Status) (s : State) : (refuse st s).1 = s := rfl

end Sys2Proof.Machine
end

