-- ==== Sys2Proof/Laws/FramesBlocks.lean ====
section
/-! SUPPORT. What each shared operation of the blocks leaves as it was: one lemma per
operation, over every block of the state that it does not touch. -/

namespace Sys2Proof.Machine

open Sys2Proof

@[simp] theorem useSet_keeps (s : State) (r : Option RefsetId) :
    (s.useSet r).editions = s.editions ∧ (s.useSet r).desk = s.desk ∧ (s.useSet r).costing = s.costing ∧
    (s.useSet r).supply = s.supply ∧ (s.useSet r).tags = s.tags ∧ (s.useSet r).media = s.media ∧
    (s.useSet r).engine = s.engine ∧ (s.useSet r).cutter = s.cutter ∧ (s.useSet r).run = s.run ∧
    (s.useSet r).link = s.link ∧ (s.useSet r).notices = s.notices ∧ (s.useSet r).date = s.date ∧
    (s.useSet r).out = s.out ∧ (s.useSet r).pending = s.pending := by
  unfold State.useSet; split <;> simp

@[simp] theorem releaseSet_keeps (s : State) (r : Option RefsetId) :
    (s.releaseSet r).editions = s.editions ∧ (s.releaseSet r).desk = s.desk ∧
    (s.releaseSet r).costing = s.costing ∧ (s.releaseSet r).supply = s.supply ∧ (s.releaseSet r).tags = s.tags ∧
    (s.releaseSet r).media = s.media ∧ (s.releaseSet r).engine = s.engine ∧ (s.releaseSet r).cutter = s.cutter ∧
    (s.releaseSet r).run = s.run ∧ (s.releaseSet r).link = s.link ∧ (s.releaseSet r).notices = s.notices ∧
    (s.releaseSet r).date = s.date ∧ (s.releaseSet r).out = s.out ∧ (s.releaseSet r).pending = s.pending := by
  unfold State.releaseSet; split <;> simp

@[simp] theorem admitTicket_keeps (s : State) (a : Admission) (k : Ticket) :
    (s.admitTicket a k).costing = s.costing ∧ (s.admitTicket a k).supply = s.supply ∧
    (s.admitTicket a k).tags = s.tags ∧ (s.admitTicket a k).media = s.media ∧
    (s.admitTicket a k).engine = s.engine ∧ (s.admitTicket a k).cutter = s.cutter ∧
    (s.admitTicket a k).colour = s.colour ∧ (s.admitTicket a k).run = s.run ∧
    (s.admitTicket a k).link = s.link ∧ (s.admitTicket a k).notices = s.notices ∧
    (s.admitTicket a k).date = s.date ∧ (s.admitTicket a k).out = s.out ∧
    (s.admitTicket a k).pending = s.pending := by
  simp [State.admitTicket]

@[simp] theorem admissionEvent_keeps (s : State) :
    s.admissionEvent.editions = s.editions ∧ s.admissionEvent.costing = s.costing ∧
    s.admissionEvent.supply = s.supply ∧ s.admissionEvent.tags = s.tags ∧ s.admissionEvent.engine = s.engine ∧
    s.admissionEvent.cutter = s.cutter ∧ s.admissionEvent.colour = s.colour ∧ s.admissionEvent.link = s.link ∧
    s.admissionEvent.notices = s.notices ∧ s.admissionEvent.date = s.date ∧
    s.admissionEvent.pending = s.pending := by
  unfold State.admissionEvent; dsimp only; split <;> simp

@[simp] theorem cancelAdmitted_keeps (s : State) (t : TicketId) (k : Ticket) :
    (s.cancelAdmitted t k).costing = s.costing ∧ (s.cancelAdmitted t k).supply = s.supply ∧
    (s.cancelAdmitted t k).tags = s.tags ∧ (s.cancelAdmitted t k).media = s.media ∧
    (s.cancelAdmitted t k).engine = s.engine ∧ (s.cancelAdmitted t k).cutter = s.cutter ∧
    (s.cancelAdmitted t k).colour = s.colour ∧ (s.cancelAdmitted t k).link = s.link ∧
    (s.cancelAdmitted t k).notices = s.notices ∧ (s.cancelAdmitted t k).date = s.date ∧
    (s.cancelAdmitted t k).out = s.out ∧ (s.cancelAdmitted t k).pending = s.pending := by
  simp [State.cancelAdmitted]

@[simp] theorem cancelPrinting_keeps (s : State) (t : TicketId) (k : Ticket) (cause : SpoilCause) :
    (s.cancelPrinting t k cause).editions = s.editions ∧ (s.cancelPrinting t k cause).costing = s.costing ∧
    (s.cancelPrinting t k cause).supply = s.supply ∧ (s.cancelPrinting t k cause).tags = s.tags ∧
    (s.cancelPrinting t k cause).cutter = s.cutter ∧ (s.cancelPrinting t k cause).colour = s.colour ∧
    (s.cancelPrinting t k cause).run = s.run ∧ (s.cancelPrinting t k cause).link = s.link ∧
    (s.cancelPrinting t k cause).notices = s.notices ∧ (s.cancelPrinting t k cause).date = s.date ∧
    (s.cancelPrinting t k cause).pending = s.pending := by
  unfold State.cancelPrinting; split <;> simp

@[simp] theorem debitTicket_keeps (s : State) (t : TicketId) (c : ChannelId) (d : Nat) :
    (s.debitTicket t c d).editions = s.editions ∧ (s.debitTicket t c d).costing = s.costing ∧
    (s.debitTicket t c d).media = s.media ∧ (s.debitTicket t c d).engine = s.engine ∧
    (s.debitTicket t c d).cutter = s.cutter ∧ (s.debitTicket t c d).colour = s.colour ∧
    (s.debitTicket t c d).run = s.run ∧ (s.debitTicket t c d).link = s.link ∧
    (s.debitTicket t c d).date = s.date ∧ (s.debitTicket t c d).out = s.out ∧
    (s.debitTicket t c d).pending = s.pending := by
  unfold State.debitTicket; split <;> simp

@[simp] theorem meterChannel_keeps (s : State) (t : TicketId) (n : DropCounts) (c : ChannelId) :
    (s.meterChannel t n c).editions = s.editions ∧ (s.meterChannel t n c).media = s.media ∧
    (s.meterChannel t n c).engine = s.engine ∧ (s.meterChannel t n c).cutter = s.cutter ∧
    (s.meterChannel t n c).colour = s.colour ∧ (s.meterChannel t n c).run = s.run ∧
    (s.meterChannel t n c).link = s.link ∧ (s.meterChannel t n c).date = s.date ∧
    (s.meterChannel t n c).out = s.out ∧ (s.meterChannel t n c).pending = s.pending := by
  unfold State.meterChannel; split <;> simp

@[simp] theorem meterSwath_keeps (s : State) (t : TicketId) (counts : Vector DropCounts 12) :
    (s.meterSwath t counts).editions = s.editions ∧ (s.meterSwath t counts).media = s.media ∧
    (s.meterSwath t counts).engine = s.engine ∧ (s.meterSwath t counts).cutter = s.cutter ∧
    (s.meterSwath t counts).colour = s.colour ∧ (s.meterSwath t counts).run = s.run ∧
    (s.meterSwath t counts).link = s.link ∧ (s.meterSwath t counts).date = s.date ∧
    (s.meterSwath t counts).out = s.out ∧ (s.meterSwath t counts).pending = s.pending := by
  unfold State.meterSwath
  and_intros
  · exact foldl_keeps (fun s : State => s.editions) _ (by simp) _ _
  · exact foldl_keeps (fun s : State => s.media) _ (by simp) _ _
  · exact foldl_keeps (fun s : State => s.engine) _ (by simp) _ _
  · exact foldl_keeps (fun s : State => s.cutter) _ (by simp) _ _
  · exact foldl_keeps (fun s : State => s.colour) _ (by simp) _ _
  · exact foldl_keeps (fun s : State => s.run) _ (by simp) _ _
  · exact foldl_keeps (fun s : State => s.link) _ (by simp) _ _
  · exact foldl_keeps (fun s : State => s.date) _ (by simp) _ _
  · exact foldl_keeps (fun s : State => s.out) _ (by simp) _ _
  · exact foldl_keeps (fun s : State => s.pending) _ (by simp) _ _

@[simp] theorem purgeChannel_keeps (s : State) (v : Nat) (c : ChannelId) :
    (s.purgeChannel v c).editions = s.editions ∧ (s.purgeChannel v c).media = s.media ∧
    (s.purgeChannel v c).engine = s.engine ∧ (s.purgeChannel v c).cutter = s.cutter ∧
    (s.purgeChannel v c).colour = s.colour ∧ (s.purgeChannel v c).run = s.run ∧
    (s.purgeChannel v c).link = s.link ∧ (s.purgeChannel v c).date = s.date ∧ (s.purgeChannel v c).out = s.out ∧
    (s.purgeChannel v c).pending = s.pending := by
  unfold State.purgeChannel; dsimp only; split <;> simp

@[simp] theorem chargePurge_keeps (s : State) (volumes : Vector Nat 12) :
    (s.chargePurge volumes).editions = s.editions ∧ (s.chargePurge volumes).media = s.media ∧
    (s.chargePurge volumes).engine = s.engine ∧ (s.chargePurge volumes).cutter = s.cutter ∧
    (s.chargePurge volumes).colour = s.colour ∧ (s.chargePurge volumes).run = s.run ∧
    (s.chargePurge volumes).link = s.link ∧ (s.chargePurge volumes).date = s.date ∧
    (s.chargePurge volumes).out = s.out ∧ (s.chargePurge volumes).pending = s.pending := by
  unfold State.chargePurge
  and_intros
  · exact foldl_keeps (fun s : State => s.editions) _ (by simp) _ _
  · exact foldl_keeps (fun s : State => s.media) _ (by simp) _ _
  · exact foldl_keeps (fun s : State => s.engine) _ (by simp) _ _
  · exact foldl_keeps (fun s : State => s.cutter) _ (by simp) _ _
  · exact foldl_keeps (fun s : State => s.colour) _ (by simp) _ _
  · exact foldl_keeps (fun s : State => s.run) _ (by simp) _ _
  · exact foldl_keeps (fun s : State => s.link) _ (by simp) _ _
  · exact foldl_keeps (fun s : State => s.date) _ (by simp) _ _
  · exact foldl_keeps (fun s : State => s.out) _ (by simp) _ _
  · exact foldl_keeps (fun s : State => s.pending) _ (by simp) _ _

@[simp] theorem rejectBare_keeps (s : State) (t : TankId) (r : BareReason) :
    (s.rejectBare t r).editions = s.editions ∧ (s.rejectBare t r).desk = s.desk ∧
    (s.rejectBare t r).costing = s.costing ∧ (s.rejectBare t r).tags = s.tags ∧
    (s.rejectBare t r).media = s.media ∧ (s.rejectBare t r).engine = s.engine ∧
    (s.rejectBare t r).cutter = s.cutter ∧ (s.rejectBare t r).colour = s.colour ∧
    (s.rejectBare t r).run = s.run ∧ (s.rejectBare t r).link = s.link ∧ (s.rejectBare t r).date = s.date ∧
    (s.rejectBare t r).out = s.out ∧ (s.rejectBare t r).pending = s.pending := by
  simp [State.rejectBare]

@[simp] theorem takeImage_keeps (s : State) (t : TankId) (b : List Byte) :
    (s.takeImage t b).editions = s.editions ∧ (s.takeImage t b).desk = s.desk ∧
    (s.takeImage t b).costing = s.costing ∧ (s.takeImage t b).tags = s.tags ∧
    (s.takeImage t b).media = s.media ∧ (s.takeImage t b).engine = s.engine ∧
    (s.takeImage t b).cutter = s.cutter ∧ (s.takeImage t b).colour = s.colour ∧ (s.takeImage t b).run = s.run ∧
    (s.takeImage t b).link = s.link ∧ (s.takeImage t b).date = s.date ∧ (s.takeImage t b).out = s.out ∧
    (s.takeImage t b).pending = s.pending := by
  unfold State.takeImage; dsimp only
  (repeat' split) <;> simp

@[simp] theorem writeEnded_keeps (s : State) (t : TankId) (fill : Nat) (written : Bool) :
    (s.writeEnded t fill written).editions = s.editions ∧ (s.writeEnded t fill written).desk = s.desk ∧
    (s.writeEnded t fill written).costing = s.costing ∧ (s.writeEnded t fill written).tags = s.tags ∧
    (s.writeEnded t fill written).media = s.media ∧ (s.writeEnded t fill written).engine = s.engine ∧
    (s.writeEnded t fill written).cutter = s.cutter ∧ (s.writeEnded t fill written).colour = s.colour ∧
    (s.writeEnded t fill written).run = s.run ∧ (s.writeEnded t fill written).link = s.link ∧
    (s.writeEnded t fill written).notices = s.notices ∧ (s.writeEnded t fill written).date = s.date ∧
    (s.writeEnded t fill written).out = s.out ∧ (s.writeEnded t fill written).pending = s.pending := by
  unfold State.writeEnded; split <;> simp

@[simp] theorem setPresence_keeps (s : State) (t : TankId) (level : Bool) :
    (s.setPresence t level).editions = s.editions ∧ (s.setPresence t level).desk = s.desk ∧
    (s.setPresence t level).costing = s.costing ∧ (s.setPresence t level).tags = s.tags ∧
    (s.setPresence t level).media = s.media ∧ (s.setPresence t level).engine = s.engine ∧
    (s.setPresence t level).cutter = s.cutter ∧ (s.setPresence t level).colour = s.colour ∧
    (s.setPresence t level).run = s.run ∧ (s.setPresence t level).link = s.link ∧
    (s.setPresence t level).notices = s.notices ∧ (s.setPresence t level).date = s.date ∧
    (s.setPresence t level).out = s.out ∧ (s.setPresence t level).pending = s.pending := by
  simp [State.setPresence]

@[simp] theorem seatTank_keeps (s : State) (t : TankId) :
    (s.seatTank t).editions = s.editions ∧ (s.seatTank t).desk = s.desk ∧ (s.seatTank t).costing = s.costing ∧
    (s.seatTank t).media = s.media ∧ (s.seatTank t).engine = s.engine ∧ (s.seatTank t).cutter = s.cutter ∧
    (s.seatTank t).colour = s.colour ∧ (s.seatTank t).link = s.link ∧ (s.seatTank t).notices = s.notices ∧
    (s.seatTank t).date = s.date ∧ (s.seatTank t).out = s.out ∧ (s.seatTank t).pending = s.pending := by
  unfold State.seatTank; split <;> simp

@[simp] theorem afterRemoval_keeps (s : State) (c : ChannelId) (x : Side) :
    (s.afterRemoval c x).editions = s.editions ∧ (s.afterRemoval c x).desk = s.desk ∧
    (s.afterRemoval c x).costing = s.costing ∧ (s.afterRemoval c x).media = s.media ∧
    (s.afterRemoval c x).engine = s.engine ∧ (s.afterRemoval c x).cutter = s.cutter ∧
    (s.afterRemoval c x).colour = s.colour ∧ (s.afterRemoval c x).run = s.run ∧
    (s.afterRemoval c x).link = s.link ∧ (s.afterRemoval c x).date = s.date ∧ (s.afterRemoval c x).out = s.out ∧
    (s.afterRemoval c x).pending = s.pending := by
  unfold State.afterRemoval; split <;> (try split) <;> simp

@[simp] theorem removeTank_keeps (s : State) (t : TankId) :
    (s.removeTank t).editions = s.editions ∧ (s.removeTank t).desk = s.desk ∧
    (s.removeTank t).costing = s.costing ∧ (s.removeTank t).media = s.media ∧
    (s.removeTank t).engine = s.engine ∧ (s.removeTank t).cutter = s.cutter ∧
    (s.removeTank t).colour = s.colour ∧ (s.removeTank t).run = s.run ∧ (s.removeTank t).link = s.link ∧
    (s.removeTank t).date = s.date ∧ (s.removeTank t).out = s.out ∧ (s.removeTank t).pending = s.pending := by
  unfold State.removeTank; split <;> simp

@[simp] theorem feedFrom_keeps (s : State) (c : ChannelId) (x : Side) (r : TankRecord) :
    (s.feedFrom c x r).editions = s.editions ∧ (s.feedFrom c x r).desk = s.desk ∧
    (s.feedFrom c x r).costing = s.costing ∧ (s.feedFrom c x r).tags = s.tags ∧
    (s.feedFrom c x r).media = s.media ∧ (s.feedFrom c x r).engine = s.engine ∧
    (s.feedFrom c x r).cutter = s.cutter ∧ (s.feedFrom c x r).colour = s.colour ∧
    (s.feedFrom c x r).run = s.run ∧ (s.feedFrom c x r).link = s.link ∧ (s.feedFrom c x r).notices = s.notices ∧
    (s.feedFrom c x r).date = s.date ∧ (s.feedFrom c x r).out = s.out ∧
    (s.feedFrom c x r).pending = s.pending := by
  simp [State.feedFrom]

@[simp] theorem completeSwitch_keeps (s : State) (c : ChannelId) (x : Side) :
    (s.completeSwitch c x).costing = s.costing ∧ (s.completeSwitch c x).media = s.media ∧
    (s.completeSwitch c x).engine = s.engine ∧ (s.completeSwitch c x).cutter = s.cutter ∧
    (s.completeSwitch c x).colour = s.colour ∧ (s.completeSwitch c x).link = s.link ∧
    (s.completeSwitch c x).date = s.date ∧ (s.completeSwitch c x).out = s.out ∧
    (s.completeSwitch c x).pending = s.pending := by
  unfold State.completeSwitch; split <;> simp

@[simp] theorem flagExpired_keeps (s : State) (date : Nat) (t : TankId) :
    (s.flagExpired date t).editions = s.editions ∧ (s.flagExpired date t).desk = s.desk ∧
    (s.flagExpired date t).costing = s.costing ∧ (s.flagExpired date t).tags = s.tags ∧
    (s.flagExpired date t).media = s.media ∧ (s.flagExpired date t).engine = s.engine ∧
    (s.flagExpired date t).cutter = s.cutter ∧ (s.flagExpired date t).colour = s.colour ∧
    (s.flagExpired date t).run = s.run ∧ (s.flagExpired date t).link = s.link ∧
    (s.flagExpired date t).notices = s.notices ∧ (s.flagExpired date t).date = s.date ∧
    (s.flagExpired date t).out = s.out ∧ (s.flagExpired date t).pending = s.pending := by
  unfold State.flagExpired; split <;> (try split) <;> simp

@[simp] theorem targetExpired_keeps (s before : State) (date : Nat) (c : ChannelId) :
    (s.targetExpired before date c).editions = s.editions ∧ (s.targetExpired before date c).desk = s.desk ∧
    (s.targetExpired before date c).costing = s.costing ∧ (s.targetExpired before date c).media = s.media ∧
    (s.targetExpired before date c).engine = s.engine ∧ (s.targetExpired before date c).cutter = s.cutter ∧
    (s.targetExpired before date c).colour = s.colour ∧ (s.targetExpired before date c).run = s.run ∧
    (s.targetExpired before date c).link = s.link ∧ (s.targetExpired before date c).date = s.date ∧
    (s.targetExpired before date c).out = s.out ∧ (s.targetExpired before date c).pending = s.pending := by
  unfold State.targetExpired; split <;> (try split) <;> simp

@[simp] theorem rejectExpired_keeps (s : State) (date : Nat) (t : TankId) :
    (s.rejectExpired date t).editions = s.editions ∧ (s.rejectExpired date t).desk = s.desk ∧
    (s.rejectExpired date t).costing = s.costing ∧ (s.rejectExpired date t).media = s.media ∧
    (s.rejectExpired date t).engine = s.engine ∧ (s.rejectExpired date t).cutter = s.cutter ∧
    (s.rejectExpired date t).colour = s.colour ∧ (s.rejectExpired date t).run = s.run ∧
    (s.rejectExpired date t).link = s.link ∧ (s.rejectExpired date t).date = s.date ∧
    (s.rejectExpired date t).out = s.out ∧ (s.rejectExpired date t).pending = s.pending := by
  unfold State.rejectExpired; split <;> (try split) <;> simp

/-- A field that none of the three passes of the expiry treatment moves, the treatment does not move. -/
theorem expire_of_passes {α : Type} (g : State → α) (s : State) (date : Nat)
    (hf : ∀ s t, g (State.flagExpired s date t) = g s) (hr : ∀ s t, g (State.rejectExpired s date t) = g s)
    (ht : ∀ s before c, g (State.targetExpired s before date c) = g s) : g (s.expire date) = g s := by
  unfold State.expire
  exact ((foldl_keeps g _ (fun s c => ht s _ c) _ _).trans (foldl_keeps g _ hr _ _)).trans (foldl_keeps g _ hf _ _)

@[simp] theorem expire_keeps (s : State) (date : Nat) :
    (s.expire date).editions = s.editions ∧ (s.expire date).desk = s.desk ∧
    (s.expire date).costing = s.costing ∧ (s.expire date).media = s.media ∧ (s.expire date).engine = s.engine ∧
    (s.expire date).cutter = s.cutter ∧ (s.expire date).colour = s.colour ∧ (s.expire date).run = s.run ∧
    (s.expire date).link = s.link ∧ (s.expire date).date = s.date ∧ (s.expire date).out = s.out ∧
    (s.expire date).pending = s.pending := by
  refine ⟨?_, ?_, ?_, ?_, ?_, ?_, ?_, ?_, ?_, ?_, ?_, ?_⟩
  · exact expire_of_passes (·.editions) s date (by simp) (by simp) (by simp)
  · exact expire_of_passes (·.desk) s date (by simp) (by simp) (by simp)
  · exact expire_of_passes (·.costing) s date (by simp) (by simp) (by simp)
  · exact expire_of_passes (·.media) s date (by simp) (by simp) (by simp)
  · exact expire_of_passes (·.engine) s date (by simp) (by simp) (by simp)
  · exact expire_of_passes (·.cutter) s date (by simp) (by simp) (by simp)
  · exact expire_of_passes (·.colour) s date (by simp) (by simp) (by simp)
  · exact expire_of_passes (·.run) s date (by simp) (by simp) (by simp)
  · exact expire_of_passes (·.link) s date (by simp) (by simp) (by simp)
  · exact expire_of_passes (·.date) s date (by simp) (by simp) (by simp)
  · exact expire_of_passes (·.out) s date (by simp) (by simp) (by simp)
  · exact expire_of_passes (·.pending) s date (by simp) (by simp) (by simp)

@[simp] theorem release_keeps (s : State) (t : TankId) :
    (s.release t).editions = s.editions ∧ (s.release t).desk = s.desk ∧ (s.release t).costing = s.costing ∧
    (s.release t).media = s.media ∧ (s.release t).engine = s.engine ∧ (s.release t).cutter = s.cutter ∧
    (s.release t).colour = s.colour ∧ (s.release t).run = s.run ∧ (s.release t).link = s.link ∧
    (s.release t).date = s.date ∧ (s.release t).out = s.out ∧ (s.release t).pending = s.pending := by
  unfold State.release; dsimp only
  (repeat' split) <;> simp

@[simp] theorem freeBus_keeps (s : State) :
    s.freeBus.editions = s.editions ∧ s.freeBus.desk = s.desk ∧ s.freeBus.costing = s.costing ∧
    s.freeBus.supply = s.supply ∧ s.freeBus.media = s.media ∧ s.freeBus.engine = s.engine ∧
    s.freeBus.cutter = s.cutter ∧ s.freeBus.colour = s.colour ∧ s.freeBus.run = s.run ∧
    s.freeBus.link = s.link ∧ s.freeBus.notices = s.notices ∧ s.freeBus.date = s.date ∧ s.freeBus.out = s.out ∧
    s.freeBus.pending = s.pending := by
  simp [State.freeBus]

@[simp] theorem endWrite_keeps (s : State) (t : TankId) (fill : Nat) (written : Bool) :
    (s.endWrite t fill written).editions = s.editions ∧ (s.endWrite t fill written).desk = s.desk ∧
    (s.endWrite t fill written).costing = s.costing ∧ (s.endWrite t fill written).media = s.media ∧
    (s.endWrite t fill written).engine = s.engine ∧ (s.endWrite t fill written).cutter = s.cutter ∧
    (s.endWrite t fill written).colour = s.colour ∧ (s.endWrite t fill written).run = s.run ∧
    (s.endWrite t fill written).link = s.link ∧ (s.endWrite t fill written).date = s.date ∧
    (s.endWrite t fill written).out = s.out ∧ (s.endWrite t fill written).pending = s.pending := by
  unfold State.endWrite; dsimp only; split <;> simp

@[simp] theorem missed_keeps (s : State) (tx : TagTransaction) (m : Miss) :
    (s.missed tx m).editions = s.editions ∧ (s.missed tx m).desk = s.desk ∧
    (s.missed tx m).costing = s.costing ∧ (s.missed tx m).media = s.media ∧ (s.missed tx m).engine = s.engine ∧
    (s.missed tx m).cutter = s.cutter ∧ (s.missed tx m).colour = s.colour ∧ (s.missed tx m).run = s.run ∧
    (s.missed tx m).link = s.link ∧ (s.missed tx m).date = s.date ∧ (s.missed tx m).pending = s.pending := by
  unfold State.missed; split <;> (try split) <;> simp

@[simp] theorem endImage_keeps (s : State) (t : TankId) (b : List Byte) :
    (s.endImage t b).editions = s.editions ∧ (s.endImage t b).desk = s.desk ∧
    (s.endImage t b).costing = s.costing ∧ (s.endImage t b).media = s.media ∧
    (s.endImage t b).engine = s.engine ∧ (s.endImage t b).cutter = s.cutter ∧
    (s.endImage t b).colour = s.colour ∧ (s.endImage t b).run = s.run ∧ (s.endImage t b).link = s.link ∧
    (s.endImage t b).date = s.date ∧ (s.endImage t b).out = s.out ∧ (s.endImage t b).pending = s.pending := by
  simp [State.endImage]

@[simp] theorem answered_keeps (s : State) (tx : TagTransaction) (v : TagVerdict) :
    (s.answered tx v).editions = s.editions ∧ (s.answered tx v).desk = s.desk ∧
    (s.answered tx v).costing = s.costing ∧ (s.answered tx v).media = s.media ∧
    (s.answered tx v).engine = s.engine ∧ (s.answered tx v).cutter = s.cutter ∧
    (s.answered tx v).colour = s.colour ∧ (s.answered tx v).run = s.run ∧ (s.answered tx v).link = s.link ∧
    (s.answered tx v).date = s.date ∧ (s.answered tx v).pending = s.pending := by
  unfold State.answered; split <;> simp

@[simp] theorem deactivate_keeps (s : State) :
    s.deactivate.editions = s.editions ∧ s.deactivate.desk = s.desk ∧ s.deactivate.costing = s.costing ∧
    s.deactivate.supply = s.supply ∧ s.deactivate.tags = s.tags ∧ s.deactivate.engine = s.engine ∧
    s.deactivate.cutter = s.cutter ∧ s.deactivate.colour = s.colour ∧ s.deactivate.run = s.run ∧
    s.deactivate.link = s.link ∧ s.deactivate.notices = s.notices ∧ s.deactivate.date = s.date ∧
    s.deactivate.out = s.out ∧ s.deactivate.pending = s.pending := by
  unfold State.deactivate; split <;> (try split) <;> simp

@[simp] theorem endEject_keeps (s : State) :
    s.endEject.editions = s.editions ∧ s.endEject.desk = s.desk ∧ s.endEject.costing = s.costing ∧
    s.endEject.supply = s.supply ∧ s.endEject.tags = s.tags ∧ s.endEject.engine = s.engine ∧
    s.endEject.cutter = s.cutter ∧ s.endEject.colour = s.colour ∧ s.endEject.run = s.run ∧
    s.endEject.link = s.link ∧ s.endEject.notices = s.notices ∧ s.endEject.date = s.date ∧
    s.endEject.out = s.out ∧ s.endEject.pending = s.pending := by
  simp [State.endEject]

@[simp] theorem selectRoll_keeps (s : State) (r : RollId) (x : Roll) :
    (s.selectRoll r x).editions = s.editions ∧ (s.selectRoll r x).desk = s.desk ∧
    (s.selectRoll r x).costing = s.costing ∧ (s.selectRoll r x).supply = s.supply ∧
    (s.selectRoll r x).tags = s.tags ∧ (s.selectRoll r x).engine = s.engine ∧
    (s.selectRoll r x).cutter = s.cutter ∧ (s.selectRoll r x).colour = s.colour ∧
    (s.selectRoll r x).run = s.run ∧ (s.selectRoll r x).link = s.link ∧ (s.selectRoll r x).date = s.date ∧
    (s.selectRoll r x).out = s.out ∧ (s.selectRoll r x).pending = s.pending := by
  simp [State.selectRoll]

@[simp] theorem setRollEnd_keeps (s : State) (r : RollId) (level : Bool) :
    (s.setRollEnd r level).editions = s.editions ∧ (s.setRollEnd r level).desk = s.desk ∧
    (s.setRollEnd r level).costing = s.costing ∧ (s.setRollEnd r level).supply = s.supply ∧
    (s.setRollEnd r level).tags = s.tags ∧ (s.setRollEnd r level).engine = s.engine ∧
    (s.setRollEnd r level).cutter = s.cutter ∧ (s.setRollEnd r level).colour = s.colour ∧
    (s.setRollEnd r level).run = s.run ∧ (s.setRollEnd r level).link = s.link ∧
    (s.setRollEnd r level).notices = s.notices ∧ (s.setRollEnd r level).date = s.date ∧
    (s.setRollEnd r level).out = s.out ∧ (s.setRollEnd r level).pending = s.pending := by
  simp [State.setRollEnd]

@[simp] theorem setMediaPresent_keeps (s : State) (r : RollId) (level : Bool) :
    (s.setMediaPresent r level).editions = s.editions ∧ (s.setMediaPresent r level).desk = s.desk ∧
    (s.setMediaPresent r level).costing = s.costing ∧ (s.setMediaPresent r level).supply = s.supply ∧
    (s.setMediaPresent r level).tags = s.tags ∧ (s.setMediaPresent r level).engine = s.engine ∧
    (s.setMediaPresent r level).cutter = s.cutter ∧ (s.setMediaPresent r level).colour = s.colour ∧
    (s.setMediaPresent r level).run = s.run ∧ (s.setMediaPresent r level).link = s.link ∧
    (s.setMediaPresent r level).notices = s.notices ∧ (s.setMediaPresent r level).date = s.date ∧
    (s.setMediaPresent r level).out = s.out ∧ (s.setMediaPresent r level).pending = s.pending := by
  simp [State.setMediaPresent]

@[simp] theorem endActive_keeps (s : State) (r : RollId) (x : Roll) :
    (s.endActive r x).costing = s.costing ∧ (s.endActive r x).link = s.link ∧ (s.endActive r x).date = s.date ∧
    (s.endActive r x).pending = s.pending := by
  simp [State.endActive]

@[simp] theorem tailRose_keeps (s : State) (r : RollId) :
    (s.tailRose r).costing = s.costing ∧ (s.tailRose r).link = s.link ∧ (s.tailRose r).date = s.date ∧
    (s.tailRose r).pending = s.pending := by
  unfold State.tailRose; split <;> (try split) <;> simp

@[simp] theorem mediaFell_keeps (s : State) (r : RollId) :
    (s.mediaFell r).costing = s.costing ∧ (s.mediaFell r).link = s.link ∧ (s.mediaFell r).date = s.date ∧
    (s.mediaFell r).pending = s.pending := by
  unfold State.mediaFell; split <;> (try split) <;> simp

@[simp] theorem deny_keeps (s : State) (t : TicketId) :
    (s.deny t).editions = s.editions ∧ (s.deny t).desk = s.desk ∧ (s.deny t).costing = s.costing ∧
    (s.deny t).supply = s.supply ∧ (s.deny t).tags = s.tags ∧ (s.deny t).media = s.media ∧
    (s.deny t).engine = s.engine ∧ (s.deny t).cutter = s.cutter ∧ (s.deny t).colour = s.colour ∧
    (s.deny t).run = s.run ∧ (s.deny t).link = s.link ∧ (s.deny t).notices = s.notices ∧
    (s.deny t).date = s.date ∧ (s.deny t).pending = s.pending := by
  simp [State.deny]

@[simp] theorem endOp_keeps (s : State) :
    s.endOp.editions = s.editions ∧ s.endOp.desk = s.desk ∧ s.endOp.costing = s.costing ∧
    s.endOp.supply = s.supply ∧ s.endOp.tags = s.tags ∧ s.endOp.media = s.media ∧ s.endOp.cutter = s.cutter ∧
    s.endOp.colour = s.colour ∧ s.endOp.run = s.run ∧ s.endOp.link = s.link ∧ s.endOp.notices = s.notices ∧
    s.endOp.date = s.date ∧ s.endOp.out = s.out ∧ s.endOp.pending = s.pending := by
  simp [State.endOp]

@[simp] theorem clearMark_keeps (s : State) (t : TicketId) :
    (s.clearMark t).editions = s.editions ∧ (s.clearMark t).costing = s.costing ∧
    (s.clearMark t).supply = s.supply ∧ (s.clearMark t).tags = s.tags ∧ (s.clearMark t).media = s.media ∧
    (s.clearMark t).engine = s.engine ∧ (s.clearMark t).cutter = s.cutter ∧ (s.clearMark t).colour = s.colour ∧
    (s.clearMark t).run = s.run ∧ (s.clearMark t).link = s.link ∧ (s.clearMark t).notices = s.notices ∧
    (s.clearMark t).date = s.date ∧ (s.clearMark t).out = s.out ∧ (s.clearMark t).pending = s.pending := by
  simp [State.clearMark]

@[simp] theorem countSwath_keeps (s : State) (t : TicketId) :
    (s.countSwath t).editions = s.editions ∧ (s.countSwath t).costing = s.costing ∧
    (s.countSwath t).supply = s.supply ∧ (s.countSwath t).tags = s.tags ∧ (s.countSwath t).media = s.media ∧
    (s.countSwath t).engine = s.engine ∧ (s.countSwath t).cutter = s.cutter ∧
    (s.countSwath t).colour = s.colour ∧ (s.countSwath t).run = s.run ∧ (s.countSwath t).link = s.link ∧
    (s.countSwath t).notices = s.notices ∧ (s.countSwath t).date = s.date ∧ (s.countSwath t).out = s.out ∧
    (s.countSwath t).pending = s.pending := by
  simp [State.countSwath]

@[simp] theorem firstSwathPause_keeps (s : State) (t : TicketId) :
    (s.firstSwathPause t).editions = s.editions ∧ (s.firstSwathPause t).costing = s.costing ∧
    (s.firstSwathPause t).supply = s.supply ∧ (s.firstSwathPause t).tags = s.tags ∧
    (s.firstSwathPause t).media = s.media ∧ (s.firstSwathPause t).engine = s.engine ∧
    (s.firstSwathPause t).cutter = s.cutter ∧ (s.firstSwathPause t).colour = s.colour ∧
    (s.firstSwathPause t).run = s.run ∧ (s.firstSwathPause t).link = s.link ∧
    (s.firstSwathPause t).notices = s.notices ∧ (s.firstSwathPause t).date = s.date ∧
    (s.firstSwathPause t).out = s.out ∧ (s.firstSwathPause t).pending = s.pending := by
  unfold State.firstSwathPause; split <;> (try split) <;> simp

@[simp] theorem owedAfterSwath_keeps (s : State) (t : TicketId) (a f : Nat) :
    (s.owedAfterSwath t a f).editions = s.editions ∧ (s.owedAfterSwath t a f).desk = s.desk ∧
    (s.owedAfterSwath t a f).costing = s.costing ∧ (s.owedAfterSwath t a f).supply = s.supply ∧
    (s.owedAfterSwath t a f).tags = s.tags ∧ (s.owedAfterSwath t a f).media = s.media ∧
    (s.owedAfterSwath t a f).cutter = s.cutter ∧ (s.owedAfterSwath t a f).colour = s.colour ∧
    (s.owedAfterSwath t a f).run = s.run ∧ (s.owedAfterSwath t a f).link = s.link ∧
    (s.owedAfterSwath t a f).notices = s.notices ∧ (s.owedAfterSwath t a f).date = s.date ∧
    (s.owedAfterSwath t a f).out = s.out ∧ (s.owedAfterSwath t a f).pending = s.pending := by
  unfold State.owedAfterSwath; dsimp only
  (repeat' split) <;> simp

@[simp] theorem slip_keeps (s : State) :
    s.slip.costing = s.costing ∧ s.slip.link = s.link ∧ s.slip.date = s.date ∧ s.slip.pending = s.pending := by
  simp [State.slip]

@[simp] theorem takeSwath_keeps (s : State) (t : TicketId) (f : Nat) (counts : Vector DropCounts 12) :
    (s.takeSwath t f counts).link = s.link ∧ (s.takeSwath t f counts).date = s.date ∧
    (s.takeSwath t f counts).pending = s.pending := by
  simp [State.takeSwath]

@[simp] theorem swathReported_keeps (s : State) (t : TicketId) (a : Nat) (aborted : Bool) (f : Nat) (counts : Vector DropCounts 12) :
    (s.swathReported t a aborted f counts).link = s.link ∧
    (s.swathReported t a aborted f counts).date = s.date ∧
    (s.swathReported t a aborted f counts).pending = s.pending := by
  unfold State.swathReported; dsimp only
  (repeat' split) <;> simp

@[simp] theorem feedReported_keeps (s : State) (asked : Nat) (p : FeedPurpose) (aborted : Bool) (f : Nat) :
    (s.feedReported asked p aborted f).costing = s.costing ∧ (s.feedReported asked p aborted f).link = s.link ∧
    (s.feedReported asked p aborted f).date = s.date ∧
    (s.feedReported asked p aborted f).pending = s.pending := by
  unfold State.feedReported; split <;> (try split) <;> simp

@[simp] theorem clearFlags_keeps (s : State) (set : ChannelSet) :
    (s.clearFlags set).editions = s.editions ∧ (s.clearFlags set).desk = s.desk ∧
    (s.clearFlags set).costing = s.costing ∧ (s.clearFlags set).supply = s.supply ∧
    (s.clearFlags set).tags = s.tags ∧ (s.clearFlags set).media = s.media ∧
    (s.clearFlags set).engine = s.engine ∧ (s.clearFlags set).cutter = s.cutter ∧
    (s.clearFlags set).colour = s.colour ∧ (s.clearFlags set).link = s.link ∧
    (s.clearFlags set).notices = s.notices ∧ (s.clearFlags set).date = s.date ∧ (s.clearFlags set).out = s.out ∧
    (s.clearFlags set).pending = s.pending := by
  simp [State.clearFlags]

@[simp] theorem purgeEnded_keeps (s : State) (kind : Option HeadOp) (set : ChannelSet) (aborted : Bool) :
    (s.purgeEnded kind set aborted).editions = s.editions ∧
    (s.purgeEnded kind set aborted).costing = s.costing ∧ (s.purgeEnded kind set aborted).supply = s.supply ∧
    (s.purgeEnded kind set aborted).tags = s.tags ∧ (s.purgeEnded kind set aborted).engine = s.engine ∧
    (s.purgeEnded kind set aborted).cutter = s.cutter ∧ (s.purgeEnded kind set aborted).colour = s.colour ∧
    (s.purgeEnded kind set aborted).link = s.link ∧ (s.purgeEnded kind set aborted).notices = s.notices ∧
    (s.purgeEnded kind set aborted).date = s.date ∧ (s.purgeEnded kind set aborted).pending = s.pending := by
  unfold State.purgeEnded; split <;> (try split) <;> simp

@[simp] theorem purgeReported_keeps (s : State) (set : ChannelSet) (aborted : Bool) (volumes : Vector Nat 12) :
    (s.purgeReported set aborted volumes).editions = s.editions ∧
    (s.purgeReported set aborted volumes).cutter = s.cutter ∧
    (s.purgeReported set aborted volumes).colour = s.colour ∧
    (s.purgeReported set aborted volumes).link = s.link ∧ (s.purgeReported set aborted volumes).date = s.date ∧
    (s.purgeReported set aborted volumes).pending = s.pending := by
  simp [State.purgeReported]

@[simp] theorem uncapped_keeps (s : State) (aborted : Bool) :
    (s.uncapped aborted).editions = s.editions ∧ (s.uncapped aborted).desk = s.desk ∧
    (s.uncapped aborted).costing = s.costing ∧ (s.uncapped aborted).supply = s.supply ∧
    (s.uncapped aborted).tags = s.tags ∧ (s.uncapped aborted).media = s.media ∧
    (s.uncapped aborted).engine = s.engine ∧ (s.uncapped aborted).cutter = s.cutter ∧
    (s.uncapped aborted).colour = s.colour ∧ (s.uncapped aborted).link = s.link ∧
    (s.uncapped aborted).notices = s.notices ∧ (s.uncapped aborted).date = s.date ∧
    (s.uncapped aborted).out = s.out ∧ (s.uncapped aborted).pending = s.pending := by
  unfold State.uncapped; split <;> (try split) <;> simp

@[simp] theorem loseOp_keeps (s : State) :
    s.loseOp.editions = s.editions ∧ s.loseOp.costing = s.costing ∧ s.loseOp.supply = s.supply ∧
    s.loseOp.tags = s.tags ∧ s.loseOp.media = s.media ∧ s.loseOp.cutter = s.cutter ∧
    s.loseOp.colour = s.colour ∧ s.loseOp.link = s.link ∧ s.loseOp.notices = s.notices ∧
    s.loseOp.date = s.date ∧ s.loseOp.out = s.out ∧ s.loseOp.pending = s.pending := by
  unfold State.loseOp; split <;> (try split) <;> simp

@[simp] theorem engineStarted_keeps (s : State) :
    s.engineStarted.editions = s.editions ∧ s.engineStarted.desk = s.desk ∧
    s.engineStarted.costing = s.costing ∧ s.engineStarted.media = s.media ∧ s.engineStarted.engine = s.engine ∧
    s.engineStarted.cutter = s.cutter ∧ s.engineStarted.colour = s.colour ∧ s.engineStarted.link = s.link ∧
    s.engineStarted.notices = s.notices ∧ s.engineStarted.date = s.date ∧ s.engineStarted.out = s.out ∧
    s.engineStarted.pending = s.pending := by
  simp [State.engineStarted]

@[simp] theorem engineRestarted_keeps (s : State) :
    s.engineRestarted.costing = s.costing ∧ s.engineRestarted.link = s.link ∧ s.engineRestarted.date = s.date ∧
    s.engineRestarted.pending = s.pending := by
  simp [State.engineRestarted]

@[simp] theorem setCutterLine_keeps (s : State) (x : CarriageEnd) (level : Bool) :
    (s.setCutterLine x level).editions = s.editions ∧ (s.setCutterLine x level).desk = s.desk ∧
    (s.setCutterLine x level).costing = s.costing ∧ (s.setCutterLine x level).supply = s.supply ∧
    (s.setCutterLine x level).tags = s.tags ∧ (s.setCutterLine x level).media = s.media ∧
    (s.setCutterLine x level).engine = s.engine ∧ (s.setCutterLine x level).colour = s.colour ∧
    (s.setCutterLine x level).run = s.run ∧ (s.setCutterLine x level).link = s.link ∧
    (s.setCutterLine x level).notices = s.notices ∧ (s.setCutterLine x level).date = s.date ∧
    (s.setCutterLine x level).out = s.out ∧ (s.setCutterLine x level).pending = s.pending := by
  unfold State.setCutterLine; split <;> simp

@[simp] theorem carriageAt_keeps (s : State) (x : CarriageEnd) :
    (s.carriageAt x).supply = s.supply ∧ (s.carriageAt x).tags = s.tags ∧ (s.carriageAt x).engine = s.engine ∧
    (s.carriageAt x).colour = s.colour ∧ (s.carriageAt x).link = s.link ∧ (s.carriageAt x).date = s.date ∧
    (s.carriageAt x).pending = s.pending := by
  unfold State.carriageAt; split <;> (try split) <;> simp

@[simp] theorem sideTaken_keeps (s : State) :
    s.sideTaken.editions = s.editions ∧ s.sideTaken.desk = s.desk ∧ s.sideTaken.costing = s.costing ∧
    s.sideTaken.supply = s.supply ∧ s.sideTaken.tags = s.tags ∧ s.sideTaken.media = s.media ∧
    s.sideTaken.engine = s.engine ∧ s.sideTaken.colour = s.colour ∧ s.sideTaken.run = s.run ∧
    s.sideTaken.link = s.link ∧ s.sideTaken.notices = s.notices ∧ s.sideTaken.date = s.date ∧
    s.sideTaken.out = s.out ∧ s.sideTaken.pending = s.pending := by
  simp [State.sideTaken]

@[simp] theorem retryCut_keeps (s : State) (h : HeldCut) :
    (s.retryCut h).editions = s.editions ∧ (s.retryCut h).desk = s.desk ∧ (s.retryCut h).costing = s.costing ∧
    (s.retryCut h).supply = s.supply ∧ (s.retryCut h).tags = s.tags ∧ (s.retryCut h).media = s.media ∧
    (s.retryCut h).engine = s.engine ∧ (s.retryCut h).colour = s.colour ∧ (s.retryCut h).run = s.run ∧
    (s.retryCut h).link = s.link ∧ (s.retryCut h).date = s.date ∧ (s.retryCut h).out = s.out ∧
    (s.retryCut h).pending = s.pending := by
  unfold State.retryCut; dsimp only; split <;> simp

@[simp] theorem fitBlade_keeps (s : State) (life : Nat) :
    (s.fitBlade life).editions = s.editions ∧ (s.fitBlade life).desk = s.desk ∧
    (s.fitBlade life).costing = s.costing ∧ (s.fitBlade life).supply = s.supply ∧
    (s.fitBlade life).tags = s.tags ∧ (s.fitBlade life).media = s.media ∧ (s.fitBlade life).engine = s.engine ∧
    (s.fitBlade life).colour = s.colour ∧ (s.fitBlade life).run = s.run ∧ (s.fitBlade life).link = s.link ∧
    (s.fitBlade life).date = s.date ∧ (s.fitBlade life).out = s.out ∧
    (s.fitBlade life).pending = s.pending := by
  unfold State.fitBlade; dsimp only
  (repeat' split) <;> simp

@[simp] theorem sensorEnds_keeps (s : State) (st : SensorState) :
    (s.sensorEnds st).editions = s.editions ∧ (s.sensorEnds st).desk = s.desk ∧
    (s.sensorEnds st).costing = s.costing ∧ (s.sensorEnds st).supply = s.supply ∧
    (s.sensorEnds st).tags = s.tags ∧ (s.sensorEnds st).media = s.media ∧ (s.sensorEnds st).engine = s.engine ∧
    (s.sensorEnds st).cutter = s.cutter ∧ (s.sensorEnds st).run = s.run ∧ (s.sensorEnds st).link = s.link ∧
    (s.sensorEnds st).notices = s.notices ∧ (s.sensorEnds st).date = s.date ∧ (s.sensorEnds st).out = s.out ∧
    (s.sensorEnds st).pending = s.pending := by
  simp [State.sensorEnds]

@[simp] theorem calibrated_keeps (s : State) :
    s.calibrated.editions = s.editions ∧ s.calibrated.desk = s.desk ∧ s.calibrated.costing = s.costing ∧
    s.calibrated.supply = s.supply ∧ s.calibrated.tags = s.tags ∧ s.calibrated.media = s.media ∧
    s.calibrated.engine = s.engine ∧ s.calibrated.cutter = s.cutter ∧ s.calibrated.run = s.run ∧
    s.calibrated.link = s.link ∧ s.calibrated.notices = s.notices ∧ s.calibrated.date = s.date ∧
    s.calibrated.pending = s.pending := by
  unfold State.calibrated; dsimp only
  (repeat' split) <;> simp

@[simp] theorem calibrationFailed_keeps (s : State) :
    s.calibrationFailed.editions = s.editions ∧ s.calibrationFailed.costing = s.costing ∧
    s.calibrationFailed.supply = s.supply ∧ s.calibrationFailed.tags = s.tags ∧
    s.calibrationFailed.engine = s.engine ∧ s.calibrationFailed.cutter = s.cutter ∧
    s.calibrationFailed.run = s.run ∧ s.calibrationFailed.link = s.link ∧ s.calibrationFailed.date = s.date ∧
    s.calibrationFailed.out = s.out ∧ s.calibrationFailed.pending = s.pending := by
  unfold State.calibrationFailed; split <;> (try split) <;> simp

@[simp] theorem readFailed_keeps (s : State) (h : HeldRead) :
    (s.readFailed h).editions = s.editions ∧ (s.readFailed h).costing = s.costing ∧
    (s.readFailed h).supply = s.supply ∧ (s.readFailed h).tags = s.tags ∧ (s.readFailed h).engine = s.engine ∧
    (s.readFailed h).cutter = s.cutter ∧ (s.readFailed h).run = s.run ∧ (s.readFailed h).link = s.link ∧
    (s.readFailed h).date = s.date ∧ (s.readFailed h).out = s.out ∧ (s.readFailed h).pending = s.pending := by
  simp [State.readFailed]

@[simp] theorem attemptFailed_keeps (s : State) :
    s.attemptFailed.editions = s.editions ∧ s.attemptFailed.costing = s.costing ∧
    s.attemptFailed.supply = s.supply ∧ s.attemptFailed.tags = s.tags ∧ s.attemptFailed.engine = s.engine ∧
    s.attemptFailed.cutter = s.cutter ∧ s.attemptFailed.run = s.run ∧ s.attemptFailed.link = s.link ∧
    s.attemptFailed.date = s.date ∧ s.attemptFailed.pending = s.pending := by
  unfold State.attemptFailed; dsimp only
  (repeat' split) <;> simp

@[simp] theorem rowRead_keeps (s : State) (h : HeldRead) (row : List Lab) :
    (s.rowRead h row).editions = s.editions ∧ (s.rowRead h row).costing = s.costing ∧
    (s.rowRead h row).supply = s.supply ∧ (s.rowRead h row).tags = s.tags ∧
    (s.rowRead h row).engine = s.engine ∧ (s.rowRead h row).cutter = s.cutter ∧ (s.rowRead h row).run = s.run ∧
    (s.rowRead h row).link = s.link ∧ (s.rowRead h row).date = s.date ∧ (s.rowRead h row).out = s.out ∧
    (s.rowRead h row).pending = s.pending := by
  unfold State.rowRead; split <;> simp

@[simp] theorem rowTaken_keeps (s : State) (row : List Lab) :
    (s.rowTaken row).editions = s.editions ∧ (s.rowTaken row).costing = s.costing ∧
    (s.rowTaken row).supply = s.supply ∧ (s.rowTaken row).tags = s.tags ∧ (s.rowTaken row).engine = s.engine ∧
    (s.rowTaken row).cutter = s.cutter ∧ (s.rowTaken row).run = s.run ∧ (s.rowTaken row).link = s.link ∧
    (s.rowTaken row).date = s.date ∧ (s.rowTaken row).pending = s.pending := by
  unfold State.rowTaken
  (repeat' split) <;> simp

@[simp] theorem settleEnds_keeps (s : State) :
    s.settleEnds.editions = s.editions ∧ s.settleEnds.costing = s.costing ∧ s.settleEnds.supply = s.supply ∧
    s.settleEnds.cutter = s.cutter ∧ s.settleEnds.link = s.link ∧ s.settleEnds.notices = s.notices ∧
    s.settleEnds.date = s.date ∧ s.settleEnds.pending = s.pending := by
  unfold State.settleEnds; dsimp only
  (repeat' split) <;> simp

@[simp] theorem enterDoze_keeps (s : State) :
    s.enterDoze.editions = s.editions ∧ s.enterDoze.desk = s.desk ∧ s.enterDoze.costing = s.costing ∧
    s.enterDoze.supply = s.supply ∧ s.enterDoze.tags = s.tags ∧ s.enterDoze.media = s.media ∧
    s.enterDoze.engine = s.engine ∧ s.enterDoze.cutter = s.cutter ∧ s.enterDoze.colour = s.colour ∧
    s.enterDoze.link = s.link ∧ s.enterDoze.notices = s.notices ∧ s.enterDoze.date = s.date ∧
    s.enterDoze.out = s.out ∧ s.enterDoze.pending = s.pending := by
  simp [State.enterDoze]

@[simp] theorem enterCapped_keeps (s : State) :
    s.enterCapped.editions = s.editions ∧ s.enterCapped.desk = s.desk ∧ s.enterCapped.costing = s.costing ∧
    s.enterCapped.media = s.media ∧ s.enterCapped.engine = s.engine ∧ s.enterCapped.cutter = s.cutter ∧
    s.enterCapped.colour = s.colour ∧ s.enterCapped.link = s.link ∧ s.enterCapped.notices = s.notices ∧
    s.enterCapped.date = s.date ∧ s.enterCapped.out = s.out ∧ s.enterCapped.pending = s.pending := by
  simp [State.enterCapped]

@[simp] theorem clearPath_keeps (s : State) :
    s.clearPath.costing = s.costing ∧ s.clearPath.link = s.link ∧ s.clearPath.date = s.date ∧
    s.clearPath.pending = s.pending := by
  simp [State.clearPath]

@[simp] theorem resumeDoze_keeps (s : State) :
    s.resumeDoze.editions = s.editions ∧ s.resumeDoze.desk = s.desk ∧ s.resumeDoze.costing = s.costing ∧
    s.resumeDoze.supply = s.supply ∧ s.resumeDoze.tags = s.tags ∧ s.resumeDoze.media = s.media ∧
    s.resumeDoze.engine = s.engine ∧ s.resumeDoze.cutter = s.cutter ∧ s.resumeDoze.colour = s.colour ∧
    s.resumeDoze.link = s.link ∧ s.resumeDoze.notices = s.notices ∧ s.resumeDoze.date = s.date ∧
    s.resumeDoze.out = s.out ∧ s.resumeDoze.pending = s.pending := by
  simp [State.resumeDoze]

@[simp] theorem leaveHalt_keeps (s : State) :
    s.leaveHalt.editions = s.editions ∧ s.leaveHalt.desk = s.desk ∧ s.leaveHalt.costing = s.costing ∧
    s.leaveHalt.media = s.media ∧ s.leaveHalt.engine = s.engine ∧ s.leaveHalt.cutter = s.cutter ∧
    s.leaveHalt.colour = s.colour ∧ s.leaveHalt.link = s.link ∧ s.leaveHalt.notices = s.notices ∧
    s.leaveHalt.date = s.date ∧ s.leaveHalt.out = s.out ∧ s.leaveHalt.pending = s.pending := by
  unfold State.leaveHalt; split <;> simp

@[simp] theorem endWait_keeps (s : State) :
    s.endWait.editions = s.editions ∧ s.endWait.desk = s.desk ∧ s.endWait.costing = s.costing ∧
    s.endWait.supply = s.supply ∧ s.endWait.tags = s.tags ∧ s.endWait.media = s.media ∧
    s.endWait.engine = s.engine ∧ s.endWait.cutter = s.cutter ∧ s.endWait.colour = s.colour ∧
    s.endWait.link = s.link ∧ s.endWait.notices = s.notices ∧ s.endWait.date = s.date ∧ s.endWait.out = s.out ∧
    s.endWait.pending = s.pending := by
  simp [State.endWait]

@[simp] theorem seatPresent_keeps (s : State) :
    s.seatPresent.editions = s.editions ∧ s.seatPresent.desk = s.desk ∧ s.seatPresent.costing = s.costing ∧
    s.seatPresent.media = s.media ∧ s.seatPresent.engine = s.engine ∧ s.seatPresent.cutter = s.cutter ∧
    s.seatPresent.colour = s.colour ∧ s.seatPresent.link = s.link ∧ s.seatPresent.notices = s.notices ∧
    s.seatPresent.date = s.date ∧ s.seatPresent.out = s.out ∧ s.seatPresent.pending = s.pending := by
  unfold State.seatPresent
  and_intros
  · exact foldl_keeps (fun s : State => s.editions) _ (by intro s x; split <;> simp) _ _
  · exact foldl_keeps (fun s : State => s.desk) _ (by intro s x; split <;> simp) _ _
  · exact foldl_keeps (fun s : State => s.costing) _ (by intro s x; split <;> simp) _ _
  · exact foldl_keeps (fun s : State => s.media) _ (by intro s x; split <;> simp) _ _
  · exact foldl_keeps (fun s : State => s.engine) _ (by intro s x; split <;> simp) _ _
  · exact foldl_keeps (fun s : State => s.cutter) _ (by intro s x; split <;> simp) _ _
  · exact foldl_keeps (fun s : State => s.colour) _ (by intro s x; split <;> simp) _ _
  · exact foldl_keeps (fun s : State => s.link) _ (by intro s x; split <;> simp) _ _
  · exact foldl_keeps (fun s : State => s.notices) _ (by intro s x; split <;> simp) _ _
  · exact foldl_keeps (fun s : State => s.date) _ (by intro s x; split <;> simp) _ _
  · exact foldl_keeps (fun s : State => s.out) _ (by intro s x; split <;> simp) _ _
  · exact foldl_keeps (fun s : State => s.pending) _ (by intro s x; split <;> simp) _ _

end Sys2Proof.Machine
end

