-- ==== Sys2Proof/Laws/Link.lean ====
section
/-! SUPPORT. The command link: what a request's arrival does where it is executed at once, what the placing of
its reply leaves, and the replies that fit in one frame. -/

namespace Sys2Proof.Machine

open Sys2Proof

/-! ## Placing reply frames -/

theorem placeFrame_keeps (l : Link) :
    l.placeFrame = { l with reply := l.placeFrame.reply, inProgress := l.placeFrame.inProgress } := by
  unfold Link.placeFrame; split
  · rfl
  · split <;> rfl

theorem placeFrames_keeps (n : Nat) (l : Link) :
    Link.placeFrames n l =
      { l with reply := (Link.placeFrames n l).reply, inProgress := (Link.placeFrames n l).inProgress } := by
  induction n generalizing l with
  | zero => rfl
  | succ n ih =>
    unfold Link.placeFrames; split
    · rfl
    · split
      · generalize hm : l.placeFrame = m
        have h := placeFrame_keeps l
        rw [hm] at h
        rw [ih m, h]
      · rfl

/-- With no reply in progress nothing is placed. -/
@[simp] theorem placeFrames_none (n : Nat) (l : Link) (h : l.inProgress = none) : Link.placeFrames n l = l := by
  cases n <;> simp [Link.placeFrames, h]

/-- A reply whose body fits the limit is placed as one frame. -/
theorem placeFrames_fits (n : Nat) (l : Link) (p : ReplyInProgress) (hp : l.inProgress = some p)
    (hb : p.rest.length ≤ p.limit - 6) (hf : p.frame.length ≤ l.freeReply) :
    Link.placeFrames (n + 1) l = { l with reply := l.reply ++ p.frame, inProgress := none } := by
  have hn : ¬ p.limit - 6 < p.rest.length := by omega
  simp [Link.placeFrames, Link.placeFrame, hp, hf, ReplyInProgress.afterFrame, hn]

@[simp] theorem place_keeps (s : State) :
    s.place.editions = s.editions ∧ s.place.desk = s.desk ∧ s.place.costing = s.costing ∧ s.place.supply = s.supply ∧
    s.place.tags = s.tags ∧ s.place.media = s.media ∧ s.place.engine = s.engine ∧ s.place.cutter = s.cutter ∧
    s.place.colour = s.colour ∧ s.place.run = s.run ∧ s.place.notices = s.notices ∧ s.place.date = s.date ∧
    s.place.out = s.out ∧ s.place.pending = s.pending := by
  simp [State.place]

/-! ## Answering -/

/-- The reply moves the command link's reply buffer and reply in progress, and nothing else. -/
theorem answerWith_answers (u : State) (tag limit : Nat) (st : Status) (body : ReplyBody) :
    u.answers (u.answerWith tag limit ⟨st, body⟩) tag st body := by
  refine ⟨⟨?_, ?_⟩, ?_, ?_⟩
  · simp [State.answerWith]
  · intro b hb
    cases b <;> simp_all [Block.same, State.answerWith]
  · simp [State.answerWith, State.emit]
  · simp only [State.answerWith, State.place, withLink_link]
    rw [placeFrames_keeps]

@[simp] theorem begin_link (s : State) : s.begin.link = s.link := rfl

/-- R187 to R190: a request that can be executed at once is, in the event of its arrival. -/
theorem deliver_atOnce (tag : Nat) (r : Request) (s : State) (h : s.takesAtOnce r) :
    deliver tag r s = executeRequest tag r s.begin := by
  obtain ⟨hc, hr, hn⟩ := h
  have e : (s.begin.withLink { s.begin.link with command := [] }) = s.begin := by
    simp only [begin_link]
    rw [← hc]; rfl
  unfold deliver
  simp only [begin_link, hn, if_true, State.acceptFrame, State.runLink, withLink_link, hc, List.nil_append,
    List.length_singleton, runFrames]
  have hr' : Link.ready { s.link with command := [{ length := 6 + bodyLengthOf r, tag := tag, request := r }] } = true :=
    hr
  simp only [hr', if_true]
  congr 1

/-- What such a request leaves: its block's effects, answered. -/
theorem deliver_answers (tag : Nat) (r : Request) (s : State) (h : s.takesAtOnce r) :
    (handle r s.asked).1.answers (deliver tag r s) tag (handle r s.asked).2.status (handle r s.asked).2.body := by
  rw [deliver_atOnce tag r s h]
  exact answerWith_answers _ _ _ _ _

/-- The same, with the state and the reply that the block gives named. -/
theorem deliver_answers_of (tag : Nat) (r : Request) (s u : State) (st : Status) (body : ReplyBody)
    (h : s.takesAtOnce r) (hh : handle r s.asked = (u, ⟨st, body⟩)) :
    u.answers (deliver tag r s) tag st body := by
  have := deliver_answers tag r s h
  rwa [hh] at this

/-! ## The state a request finds -/

@[simp] theorem asked_keeps (s : State) :
    s.asked.editions = s.editions ∧ s.asked.desk = s.desk ∧ s.asked.costing = s.costing ∧
    s.asked.supply = s.supply ∧ s.asked.tags = s.tags ∧ s.asked.media = s.media ∧ s.asked.engine = s.engine ∧
    s.asked.cutter = s.cutter ∧ s.asked.colour = s.colour ∧ s.asked.link = s.link ∧
    s.asked.notices = s.notices ∧ s.asked.date = s.date ∧ s.asked.out = [] ∧ s.asked.pending = s.pending := by
  simp [State.asked, State.begin]

@[simp] theorem asked_edition (s : State) (i : EditionId) : s.asked.edition i = s.edition i := by
  simp [State.edition]
@[simp] theorem asked_ticket (s : State) (i : TicketId) : s.asked.ticket i = s.ticket i := by
  simp [State.ticket]
@[simp] theorem asked_channel (s : State) (i : ChannelId) : s.asked.channel i = s.channel i := by
  simp [State.channel]
@[simp] theorem asked_tank (s : State) (i : TankId) : s.asked.tank i = s.tank i := by
  simp [State.tank]
@[simp] theorem asked_roll (s : State) (i : RollId) : s.asked.roll i = s.roll i := by
  simp [State.roll]
@[simp] theorem asked_refset (s : State) (i : RefsetId) : s.asked.refset i = s.refset i := by
  simp [State.refset]

/-- The reload moves the two idle timers and nothing else of the run. -/
@[simp] theorem asked_run (s : State) :
    s.asked.run.state = s.run.state ∧ s.asked.run.haltCause = s.run.haltCause ∧
    s.asked.run.protocolError = s.run.protocolError ∧ s.asked.run.headsAtHalt = s.run.headsAtHalt ∧
    s.asked.run.resumeWait = s.run.resumeWait ∧ s.asked.run.dozeLimit = s.run.dozeLimit ∧
    s.asked.run.capLimit = s.run.capLimit ∧ s.asked.run.reload = s.run.reload ∧
    s.asked.run.lightVolumes = s.run.lightVolumes ∧ s.asked.run.heavyVolumes = s.run.heavyVolumes ∧
    s.asked.run.needsPurge = s.run.needsPurge ∧ s.asked.run.wake = s.run.wake ∧ s.asked.run.slot = s.run.slot ∧
    s.asked.run.manual = s.run.manual ∧ s.asked.run.wanted = s.run.wanted := by
  unfold State.asked State.reload; split <;> simp [State.begin]

end Sys2Proof.Machine
end

