-- ==== Sys2Proof/Tests/Slice0.lean ====
section
/-! SUPPORT. Tests. Ill-formed commands that `Instr.wellFormed` refuses; values that the manual works out or
that follow from its tables by hand; small steps on small states; and for every statement with hypotheses a
state and operands that meet them. -/

namespace Sys2Proof.Tests

open Sys2Proof Sys2Proof.Machine

/-! ## Records for the tests -/

def params : EditionParams :=
  { label := 7, size := 10, mediaClass := 5, channels := 1, policy := 0, refset := 0, tmax := 300, tmean := 200,
    twarn := 100, strict := false, trim := true, holdThreshold := 3 }

def edition : Edition :=
  { label := 7, state := .opened, size := 10, next := 3, good := 1, spoiled := 0, unverified := 0, returns := [],
    inFlight := 1, mediaClass := 5, channels := 1, pins := Vector.replicate 12 none, requalify := false,
    refset := none, tmax := 300, tmean := 200, twarn := 100, strict := false, trim := true, holdThreshold := 3,
    fails := 0, locked := true, goodCost := 0, spoilCost := 0, goodInk := 0, goodMedia := 0 }

def ticket : Ticket :=
  { state := .printing, serial := 0, edition := 2, number := 2, qualifying := false, changeSeen := false, roll := 0,
    lm := 100, li := 1000, lp := 0, lt := 100, l := 1200, start := some 0, oldEnd := -750, fed := 200, refset := none,
    patches := 0, tmax := 300, tmean := 200, twarn := 100, strict := false, trim := true, swathCount := 3,
    outstanding := false, ink := Vector.replicate 12 0, acc := 0, fees := 0, lotMixed := false, overdraw := false,
    unverified := false, saturated := false, countClamped := false, verdict := .none, deMax := none, deMean := none,
    spoilCause := none, finalCost := none, pauseTimer := none }

def roll : Roll := { state := .active, mediaClass := 5, width := 610, remaining := 20000, price := 100, threshold := 2000 }

def tank : TankRecord :=
  { kind := 1, lot := 9, capacity := 500, fill := 300000000, price := 7, expiry := 40, lastWritten := 300000000,
    writeMark := 300000000, stale := false, expired := false, releasePending := false }

def restored : RestoreRecord :=
  { state := 1, label := 9, size := 10, next := 4, good := 2, spoiled := 1, unverified := 0, returnLength := 1,
    returnPlaces := #v[2, 0, 0, 0, 0, 0, 0, 0], mediaClass := 5, channels := 1, pinPresent := 1,
    pins := Vector.replicate 12 9, requalify := false, strict := false, trim := false, locked := true,
    measure := false, refset := 0, tmax := 300, tmean := 200, twarn := 100, holdThreshold := 3, fails := 1,
    goodCost := 40, spoilCost := 5, goodInk := 60, goodMedia := 2400 }

def read : HeldRead := { ticket := 0, set := 3, patches := 1, retry := false, discard := false, targets := [⟨5000, 0, 0⟩] }

def cut : HeldCut := { kind := .separate, ticket := 0, ignored := false }

/-- The machine after reset in a run state. -/
def inRun (st : RunState) : State := State.reset.withRun { State.reset.run with state := st }

/-- As `inRun`, with a ticket in slot 0 of an edition in slot 2, printing on roll 0 and in the path queue. -/
def printing (k : Ticket) (op : Option EngineOp) : State :=
  (((((inRun .running).setEdition 2 edition).setTicket 0 k).withMedia { Media.reset with
    rolls := #v[some roll, none], position := 200, pathEnd := 1200,
    stops := [{ position := 1850, actions := [{ kind := .separate, ticket := 0, handed := false }] },
      { position := 1950, actions := [{ kind := .trailCut, ticket := 0, handed := false }] }] }).withDesk
    { Desk.reset with tickets := put Desk.reset.tickets 0 (some k), path := [0] }).withEngine
      { EngineLink.reset with op := op }

/-- Channel 0 FED from slot A, with a tank there and a slot B. -/
def fed (r : TankRecord) (b : TankSlot) : State :=
  ((State.reset.setChannel 0 { Channel.reset with feed := .fed .a, lastPrice := r.price }).setTank 0
    (.held .feeding r)).setTank 1 b

/-- Channel 0 SWITCHING to slot B, with A outgoing. -/
def switching : State :=
  ((State.reset.setChannel 0 { Channel.reset with feed := .switching .b 1500, valve := .b }).setTank 0
    (.held .feeding tank)).setTank 1 (.held .standby { tank with lot := 11 })

/-- The bus in a phase. -/
def onBus (p : TagPhase) (x : TankSlot) : State := (State.reset.withTags { TagBus.reset with phase := p }).setTank 3 x

/-- The sensor head at work on a held read, past the settle time, with the ticket of the read in slot 0. -/
def sensing (st : SensorState) (h : Option HeldRead) : State :=
  (State.reset.withColour { Colour.reset with settle := none, sensor := st, held := h, timer := some 900 }).setTicket 0
    { ticket with refset := some 3, patches := 1 }

/-- The cutter in a state, with blade life and the ticket of its action in slot 0. -/
def cutting (st : CutterState) (life : Nat) : State :=
  (State.reset.withCutter { Cutter.reset with state := st, life := life }).setTicket 0 ticket

/-- A request's frame that finds both buffers empty is executed in its event. -/
theorem takes (s : State) (r : Request) (h : s.link = Link.reset) (n : 6 + bodyLengthOf r ≤ 1024) :
    s.takesAtOnce r := by
  simp only [State.takesAtOnce, h]
  exact ⟨rfl, rfl, n⟩

/-! ## Ill-formed commands -/

theorem test_tag_field_refused : (Instr.meterGet 65536).wellFormed = false := by decide
theorem test_slot_field_refused : (Instr.editionHold 1 256).wellFormed = false := by decide
theorem test_word_field_refused : (Instr.pauseLimitSet 1 65536).wellFormed = false := by decide
theorem test_length_field_refused : (Instr.feeSet 1 0 4294967296).wellFormed = false := by decide
theorem test_known_code_is_not_unknown : (Instr.unknownRequest 1 0x00 0).wellFormed = true ∧
    (Instr.unknownRequest 1 0x10 20).wellFormed = false := by decide
theorem test_long_body_refused : (Instr.unknownRequest 1 0xFFFF 251).wellFormed = false := by decide
theorem test_label_refused :
    (Instr.editionCreate 1 0 { params with label := 4294967296 }).wellFormed = false := by decide
theorem test_return_place_refused : (Instr.editionRestore 1 0
    { restored with returnPlaces := Vector.replicate 8 65536 }).wellFormed = false := by decide
theorem test_lightness_refused : (Instr.refsetLoad 1 0 1 [⟨-1, 0, 0⟩]).wellFormed = false := by decide
theorem test_red_green_refused : (Instr.result 0 [⟨0, 32768, 0⟩]).wellFormed = false := by decide
theorem test_row_length_refused : (Instr.result 0 (List.replicate 42 ⟨0, 0, 0⟩)).wellFormed = false := by decide
theorem test_drop_count_refused : (Instr.swathDone 0 0 (Vector.replicate 12
    { small := 4294967296, medium := 0, large := 0 })).wellFormed = false := by decide
theorem test_purge_volume_refused : (Instr.purgeDone (Vector.replicate 12 4294967296)).wellFormed = false := by decide
theorem test_step_refused : (Instr.swathRequest 0 256).wellFormed = false := by decide
theorem test_well_formed_passes : (Instr.editionCreate 65535 255 params).wellFormed = true ∧
    (Instr.swathDone 7 65535 (Vector.replicate 12 { small := 4294967295, medium := 0, large := 0 })).wellFormed = true := by
  decide

/-! ## Values from the manual -/

/-- R2: the clamps run Tmax, Tmean, Twarn, each against the result of the one before. -/
theorem test_tolerances_clamp_in_order : clampTolerances 5 500 40 = ⟨10, 10, 10⟩ ∧
    clampTolerances 3000 2500 2100 = ⟨2000, 2000, 2000⟩ ∧ clampTolerances 300 0 0 = ⟨300, 10, 0⟩ := by decide
/-- R163: the largest ΔE is 37,558. -/
theorem test_largest_colour_difference : deltaE ⟨10000, 12799, 12799⟩ ⟨0, -12800, -12800⟩ = 37558 := by decide
/-- R163: the measured triple is clamped first. -/
theorem test_measured_triple_is_clamped : deltaE ⟨20000, 0, 0⟩ ⟨10000, 0, 0⟩ = 0 := by decide
/-- R164: half a unit rounds up. -/
theorem test_mean_rounds_half_up : deltaMean [1, 2] = 2 ∧ deltaMean [1, 1, 2] = 1 := by decide
/-- R165: a mean exactly at Tmean with a max exactly at Tmax passes where Twarn is no lower. -/
theorem test_verdict_at_the_limits : verdictOf 300 200 300 200 200 = .pass ∧ verdictOf 300 200 300 200 199 = .warn ∧
    verdictOf 301 200 300 200 200 = .fail ∧ verdictOf 300 201 300 200 200 = .fail := by decide
/-- R57: half a cost unit rounds up. -/
theorem test_cost_rounds_half_up : roundCu 499999 = 0 ∧ roundCu 500000 = 1 ∧ roundCu 1499999 = 1 := by decide
/-- R49: the largest debit of one channel in one report is 32,212,255 nL, with a residue of 5,999 tp. -/
theorem test_largest_debit : (9999 + DropVolumes.fired ⟨400, 400, 400⟩ ⟨268435455, 268435455, 268435455⟩) / 10000 = 32212255 ∧
    (9999 + DropVolumes.fired ⟨400, 400, 400⟩ ⟨268435455, 268435455, 268435455⟩) % 10000 = 5999 := by decide
theorem toBytes_length : ∀ k n : Nat, (toBytes k n).length = k := by
  intro k
  induction k with
  | zero => intro n; rfl
  | succ k ih => intro n; simp only [toBytes, List.length_cons, ih]

theorem perChannel_length (k : Nat) (f : ChannelId → Nat) : (perChannel k f).length = 12 * k := by
  simp only [perChannel, List.length_flatMap, toBytes_length, List.map_const', List.length_finRange,
    List.sum_replicate_nat]

/-- 12.2: the record has the size its table gives. -/
theorem test_edition_record_has_118_bytes (e : Edition) : e.bytes.length = 118 := by
  unfold Edition.bytes
  simp only [List.length_append, toBytes_length, perChannel_length, List.length_flatMap, List.map_const',
    List.length_range, List.sum_replicate_nat, Nat.reduceMul, Nat.reduceAdd]

set_option maxRecDepth 20000 in
/-- R68, R90: the CRC of the nine bytes "123456789" under each polynomial and initial value, from their
published check values. -/
theorem test_crc_check_values : crc16 [0x31, 0x32, 0x33, 0x34, 0x35, 0x36, 0x37, 0x38, 0x39] = 0x29B1 ∧
    crc8 [0x31, 0x32, 0x33, 0x34, 0x35, 0x36, 0x37, 0x38, 0x39] = 0xF4 := by decide
/-- 12.1: a FEE_SET frame written out byte by byte: its body is two 4-byte fees, high byte first. -/
theorem test_fee_set_bytes : decodeRequest 0x31 [0, 0, 0x27, 0x10, 0, 0, 0, 0x05] = .feeSet 10000 5 := by decide
/-- R190, R197: a known code with a body of another length is no code of its own, and an unlisted code is
unknown. -/
theorem test_other_bodies : decodeRequest 0x31 [1] = .malformed 1 ∧
    decodeRequest 0xFFFF [1] = .unknownRequest 0xFFFF 1 := by decide
/-- The table gives no row bits, so no word spells a command. -/
theorem test_no_word_spells_a_command : decodeTableWord 16 0xFFFF = none := by decide

/-! ## Steps -/

set_option maxRecDepth 100000

/-- The state an event leaves. -/
def after (c : Instr) (s : State) : State :=
  match exec c s with
  | .next t => t
  | _ => s

/-- The state a request leaves, before its reply is placed. -/
def asked (r : Request) (s : State) : State := (handle r s).1

/-- The status of a request's reply. -/
def status (r : Request) (s : State) : Status := (handle r s).2.status

/-- R1, R4: a creation lands OPEN at next 1; a second one with its label is refused. -/
theorem test_create : (asked (.editionCreate 3 params) State.reset).edition 3 =
    some { edition with next := 1, good := 0, inFlight := 0, locked := false } ∧
    status (.editionCreate 4 params) (asked (.editionCreate 3 params) State.reset) = .duplicate := by decide
/-- R4: a size of 0 and of 10000 is out of range. -/
theorem test_create_sizes : status (.editionCreate 3 { params with size := 0 }) State.reset = .range ∧
    status (.editionCreate 3 { params with size := 10000 }) State.reset = .range ∧
    status (.editionCreate 3 { params with size := 9999 }) State.reset = .ok := by decide
/-- R5, R6: a locked edition keeps its size. -/
theorem test_set_locked : status (.editionSet 2 0b10 params) ((inRun .idle).setEdition 2 edition) = .locked ∧
    ((asked (.editionSet 2 0b100000000 { params with holdThreshold := 9 }) ((inRun .idle).setEdition 2 edition)).edition 2).map
      (·.holdThreshold) = some 7 := by decide
/-- R7, R34: the ADMITTED ticket of a held edition closes HELD and its number returns. -/
theorem test_hold : (
    let s := (asked (.editionHold 2) (((inRun .waking).setEdition 2 edition).withDesk
      { Desk.reset with tickets := put Desk.reset.tickets 0 (some { ticket with state := .admitted }), admitted := [0] }));
    (s.edition 2).map (·.returns) = some [2] ∧ (s.ticket 0).map (·.spoilCause) = some (some .held) ∧
      s.desk.admitted = []) := by decide
/-- R9, R10: a closed edition with a print in flight cannot be retired. -/
theorem test_close_retire : status (.editionClose 2) ((inRun .idle).setEdition 2 edition) = .ok ∧
    status (.editionRetire 2) ((inRun .idle).setEdition 2 { edition with state := .closed }) = .inUse ∧
    (asked (.editionRetire 2) ((inRun .idle).setEdition 2 { edition with state := .closed, inFlight := 0 })).edition 2 =
      none := by decide
/-- R8: a pin that differs from the lot that feeds brings QUALIFY. -/
theorem test_release : ((asked (.editionRelease 2) ((fed tank .empty).setEdition 2
      { edition with state := .held, pins := put edition.pins 0 (some 8) })).edition 2).map (·.state) = some .qualify ∧
    ((asked (.editionRelease 2) ((fed tank .empty).setEdition 2
      { edition with state := .held, pins := put edition.pins 0 (some 9) })).edition 2).map (·.state) = some .opened := by decide
/-- R11: G and the return list must make up x − 1. -/
theorem test_restore : status (.editionRestore 5 restored) State.reset = .ok ∧
    status (.editionRestore 5 { restored with good := 3 }) State.reset = .range := by decide
/-- R24, R25: an admission in CAPPED with the roll active and threaded takes number x and wakes the heads. -/
theorem test_admit : (
    let s := asked (.printAdmit 2 100 1000 100)
      (((inRun .capped).setEdition 2 edition).withMedia { Media.reset with rolls := #v[some roll, none] });
    (s.ticket 0).map (·.number) = some 3 ∧ s.run.wake = some (.heavy, .uncap) ∧ s.run.state = .waking) := by decide
/-- R24: a lead margin of 501 is out of range. -/
theorem test_admit_range : status (.printAdmit 2 501 1000 100)
    (((inRun .idle).setEdition 2 edition).withMedia { Media.reset with rolls := #v[some roll, none] }) = .range := by decide
/-- R35, R119: a PRINTING ticket becomes CANCELLING and its remainder is owed. -/
theorem test_cancel : (let s := ((printing ticket none).cancelPrinting 0 ticket .cancelled);
    (s.ticket 0).map (·.state) = some .cancelling ∧ s.engine.owed = some (0, 1000)) := by decide
/-- R42: a ticket with a swath outstanding is not collected. -/
theorem test_collect : status (.ticketCollect 0) (State.reset.setTicket 0
      { ticket with state := .closedSpoiled, outstanding := true }) = .busy ∧
    (asked (.ticketCollect 0) (State.reset.setTicket 0 { ticket with state := .closedGood })).ticket 0 = none := by decide
/-- R36, R45, R174: clamps. -/
theorem test_limits : (asked (.pauseLimitSet 601) State.reset).desk.pauseLimit = 600 ∧
    (asked (.feeSet 1000001 7) State.reset).costing.cutFee = 1000000 ∧
    (asked (.idleTimersSet 29 86401 0b10100) State.reset).run.dozeLimit = 30 ∧
    (asked (.idleTimersSet 29 86401 0b10100) State.reset).run.capLimit = 86400 ∧
    (asked (.idleTimersSet 0 0 0) State.reset).run.dozeLimit = 0 := by decide
/-- R47 to R51: 15,000 tp with a residue of 9,000 tp is a debit of 2 nL and a residue of 4,000 tp; it is
charged at the tank's price. -/
theorem test_metering : (
    let s := ((fed tank .empty).setTicket 0 ticket).withCosting
      { Costing.reset with residues := put Costing.reset.residues 0 9000 };
    let u := s.meterChannel 0 ⟨750, 0, 0⟩ 0
    u.costing.residues[0] = 4000 ∧ (u.ticket 0).map (·.acc) = some 14 ∧
      u.tank 0 = .held .feeding { tank with fill := 299999998 }) := by decide
/-- R63: the account is reported as it stood, and emptied. -/
theorem test_house_clear : (handle .houseClear (State.reset.withCosting { Costing.reset with house := 2500000 })).2.body =
      .house 3 500000 false ∧
    (asked .houseClear (State.reset.withCosting { Costing.reset with house := 2500000 })).costing.house = 0 := by decide
/-- R67, R98: a tank is seated, read at once by an idle bus, and its slot's frame goes out. -/
theorem test_presence : (let s := after (.presenceRise 3) State.reset;
    s.tank 3 = .reading none ∧ s.tags.phase = .request ⟨3, .read, false⟩ ∧ s.out = [.tag (readFrame 3)]) := by decide
/-- R78, R99: a tank removed while its tag is read leaves the guard time. -/
theorem test_removal : (let s := after (.presenceFall 3) (onBus (.turnaround ⟨3, .read, false⟩ 4) (.reading none));
    s.tank 3 = .empty ∧ s.tags.phase = .guard 5 ∧ s.notices.pending = 1#18 <<< 8) := by decide
/-- R72: the new tank feeds, the old one is SPENT, and the price follows. -/
theorem test_switch : (let s := after (.switchTimerExpiry 0) switching;
    (s.channel 0).feed = .fed .b ∧ s.tank 0 = .held .spent tank ∧ (s.channel 0).lastPrice = 7) := by decide
/-- R82: a feeding tank is not released while a print is on the media. -/
theorem test_release_tank : status (.tankRelease 0) ((fed tank .empty).setTicket 0 ticket) = .inUse ∧
    ((asked (.tankRelease 0) (fed tank .empty)).channel 0).feed = .starved := by decide
/-- R83: a rejected tank is read again with its fill remembered. -/
theorem test_reread : (asked (.tankReread 3) (onBus .idle (.held .rejectedKind tank))).tank 3 = .reading (some 300000000) := by decide
/-- R85: a switch level above the floor is refused. -/
theorem test_channel_set : status (.channelSet 0 10 11) State.reset = .range ∧
    ((asked (.channelSet 0 10 10) State.reset).channel 0).level = 10 := by decide
/-- R84, R195: the day after the expiry day rejects a STANDBY tank. -/
theorem test_date : (asked (.dateSet 41) (onBus .idle (.held .standby tank))).tank 3 = .held .rejectedExpired tank ∧
    (asked (.dateSet 40) (onBus .idle (.held .standby tank))).tank 3 = .held .standby tank := by decide
/-- R94: the second silence rejects the tank. -/
theorem test_turnaround : (after (.turnaroundExpiry false) (onBus (.turnaround ⟨3, .read, true⟩ 0) (.reading none))).tank 3 =
      .rejectedBare .silent none ∧
    (after (.turnaroundExpiry false) (onBus (.turnaround ⟨3, .read, false⟩ 0) (.reading none))).tags.phase =
      .request ⟨3, .read, true⟩ := by decide
/-- R99: the guard time over, the bus is free. -/
theorem test_guard : (after .guardExpiry (onBus (.guard 0) .empty)).tags.phase = .idle := by decide
/-- R93: a tag that refuses a write leaves its slot tag-stale. -/
theorem test_write_refused : (
    let s := after (.tagAnswer (sealed [3, 0xEE, 3]))
      (onBus (.turnaround ⟨3, .write 5, false⟩ 2) (.held .standby tank));
    s.tank 3 = .held .standby { tank with stale := true } ∧ s.notices.pending = 1#18 <<< 9) := by decide
/-- R105: the selection sets P and E and raises ROLL_LOW at its threshold. -/
theorem test_select : (let s := asked (.rollSelect 0) (State.reset.withMedia { Media.reset with
      rolls := #v[some { roll with state := .loaded, remaining := 2000 }, none], mediaPresent := #v[true, false], position := 40 });
    s.media.position = 0 ∧ s.media.pathEnd = -750 ∧ s.notices.pending = 1#18 <<< 10) := by decide
/-- R103: the narrowest roll is 254 mm wide. -/
theorem test_load : status (.rollLoad 0 5 253 100 1) (State.reset.withMedia { Media.reset with mediaPresent := #v[true, false] }) =
      .range ∧
    status (.rollLoad 0 5 254 100 1) (State.reset.withMedia { Media.reset with mediaPresent := #v[true, false] }) = .ok := by decide
/-- R108, R39: the tail of the active roll halts the run and spoils the print. -/
theorem test_roll_end : (let s := after (.rollEndLineRise 0) (printing ticket none);
    s.run.haltCause = some .rollEnd ∧ (s.ticket 0).map (·.spoilCause) = some (some .rollEnd) ∧ s.media.stops = [] ∧
      (s.roll 0).map (·.remaining) = some 0) := by decide
/-- R121: 9 s is clamped to 10, and 0 is kept. -/
theorem test_eject_delay : (asked (.ejectDelaySet 9) State.reset).media.ejectDelay = 10 ∧
    (asked (.ejectDelaySet 0) State.reset).media.ejectDelay = 0 := by decide
/-- R131: the allowance is cut at the stop, and the rest is owed. -/
theorem test_grant : (let s := after (.swathRequest 0 127) ((printing ticket none).withMedia { Media.reset with
      rolls := #v[some roll, none], position := 200, stops := [{ position := 300, actions := [] }] });
    s.engine.op = none ∧ s.engine.request = some ⟨0, 127, true⟩) ∧
    (let s := after (.swathRequest 0 127) (((printing { ticket with trim := false } none).withSupply
        { Supply.reset with channels := put Supply.reset.channels 0 { Channel.reset with feed := .fed .a } }).withMedia
          { Media.reset with rolls := #v[some roll, none], position := 200, stops := [{ position := 300, actions := [] }] });
      s.engine.op = some ⟨.swath 0 100, false⟩ ∧ s.engine.owed = some (0, 27)) := by decide
/-- R133, R116: a swath of 100 mm moves P and the ticket's fed. -/
theorem test_swath_done : (
    let s := after (.swathDone 0 100 (Vector.replicate 12 ⟨0, 0, 0⟩))
      (printing { ticket with outstanding := true } (some ⟨.swath 0 100, false⟩));
    s.media.position = 300 ∧ (s.ticket 0).map (·.fed) = some 300 ∧ (s.ticket 0).map (·.swathCount) = some 4 ∧
      (s.ticket 0).map (·.acc) = some 6100000 ∧ s.engine.op = none) := by decide
/-- R135: one millimetre too many halts the run. -/
theorem test_slip : (after (.swathDone 0 101 (Vector.replicate 12 ⟨0, 0, 0⟩))
    (printing { ticket with outstanding := true } (some ⟨.swath 0 100, false⟩))).run.haltCause = some .slip := by decide
/-- R134: an owed feed is paid in part. -/
theorem test_feed_done : (
    let s := after (.feedDone 20) ((printing ticket none).withEngine
      { EngineLink.reset with op := some ⟨.feed 50 (.owed 0), false⟩, owed := some (0, 50) });
    s.media.position = 220 ∧ s.engine.owed = some (0, 30) ∧ s.engine.op = some ⟨.feed 30 (.owed 0), false⟩) := by decide
/-- R139, R183: a fault outside ENGINE_WAIT halts the run; in it, it is only recorded. -/
theorem test_fault : (after (.engineFault 9) (inRun .idle)).run.haltCause = some .fault ∧
    (after (.engineFault 9) State.reset).run.state = .engineWait ∧
    (after (.engineFault 9) State.reset).engine.lastFault = some 9 := by decide
/-- R141: the engine's start leaves the run CAPPED. -/
theorem test_engine_ready : (after .engineReady State.reset).run.state = .capped ∧
    (after .engineReady (inRun .idle)).run.haltCause = some .restart := by decide
/-- R136, R177: the UNCAP done, the wake purge is next; with no channel fed the wake ends. -/
theorem test_uncap : (after .uncapDone (((inRun .waking).withRun { (inRun .waking).run with
      wake := some (.heavy, .uncap), slot := some ⟨.uncap, true⟩ }).withEngine
        { EngineLink.reset with op := some ⟨.uncap, false⟩ })).run.state = .idle := by decide
/-- R147: the traverse ends at its target, with the cut fee charged. -/
theorem test_cut_ends : (
    let s := after .endLineRise ((cutting (.cutting .farEnd 100 cut) 4).withCosting
      { Costing.reset with cutFee := 25 });
    s.cutter.state = .idle ∧ s.cutter.side = .farEnd ∧ (s.ticket 0).map (·.fees) = some 25) := by decide
/-- R148: a jam keeps the action and the side. -/
theorem test_jam : (after .cutTimerExpiry (cutting (.cutting .farEnd 0 cut) 4)).cutter.state = .jammed cut := by decide
/-- R149: a retry takes a life and drives from the side the lines give. -/
theorem test_retry : (asked .cutterClearRetry (cutting (.jammed cut) 4)).cutter.state = .cutting .farEnd 4000 cut ∧
    (asked .cutterClearRetry (cutting (.jammed cut) 4)).cutter.life = 3 ∧
    (asked .cutterClearRetry (cutting (.jammed cut) 0)).cutter.state = .worn (some cut) := by decide
/-- R150: a blade fitted under a waiting action starts it. -/
theorem test_blade : (asked (.bladeFit 10) (cutting (.worn (some cut)) 0)).cutter.life = 9 ∧
    status (.bladeFit 100001) (cutting .idle 5) = .range ∧ status (.bladeFit 1) (cutting (.jammed cut) 5) = .busy := by decide
/-- R163 to R166: a patch 1.00 off a tolerance of 1.00 warns no one. -/
theorem test_result : (
    let s := after (.result 4 [⟨5100, 0, 0⟩]) ((sensing .measuring (some read)).withColour
      { (sensing .measuring (some read)).colour with exchange := 4 });
    (s.ticket 0).map (·.verdict) = some .pass ∧ (s.ticket 0).map (·.deMax) = some (some 100) ∧ s.colour.sensor = .idle) := by decide
/-- R161: the calibration done, the read it was for is measured, as the first since. -/
theorem test_calibrated : (let s := after (.calDone 0 true) (sensing .calibrating (some read));
    s.colour.sensor = .measuring ∧ s.colour.calCount = 1 ∧ s.out = [.sensor (.measure 1 1)]) := by decide
/-- R162: a second failure ends the read, and the next begins with a calibration. -/
theorem test_sensor_error : (let s := after (.sensorError 0 5) (sensing .measuring (some { read with retry := true }));
    s.colour.calCount = 50 ∧ (s.ticket 0).map (·.verdict) = some .unverified ∧ s.colour.lastError = some 5) := by decide
/-- R154: the targets are clamped. -/
theorem test_refset : (asked (.refsetLoad 3 1 [⟨20000, -20000, 20000⟩]) State.reset).refset 3 =
    { targets := [⟨10000, -12800, 12799⟩], useCount := 0 } := by decide
/-- R176: the parked heads are presented at once. -/
theorem test_doze : (let s := after .dozeTimerExpiry ((inRun .idle).withRun { (inRun .idle).run with dozeTimer := some 0 });
    s.run.state = .doze ∧ s.engine.op = some ⟨.park, false⟩ ∧ s.run.slot = some ⟨.park, true⟩) := by decide
/-- R182: a drain with the whole path fed asks for an eject. -/
theorem test_drain : (asked .stopDrain (printing { ticket with state := .travelling, fed := 1200 } none)).run.state = .draining ∧
    (asked .stopDrain (printing { ticket with state := .travelling, fed := 1200 } none)).media.eject = true := by decide
/-- R184: heads that were capped are capped still. -/
theorem test_resume : (let s := asked (.resume true) ((inRun .halted).withRun { (inRun .halted).run with
      headsAtHalt := some .covered });
    s.run.state = .capped) ∧ status (.resume false) (inRun .halted) = .badState := by decide
/-- R194: the kinds named are cleared. -/
theorem test_notice_clear : (asked (.noticeClear 0b101) (State.reset.withNotices { pending := 0b111, enabled := 1 })).notices.pending =
    0b10 := by decide
/-- R187, R188: a frame cut short is discarded SHORT; a transfer of two zero bytes reads. -/
theorem test_select_rise : (after .frameReceive (State.reset.withLink { Link.reset with
      receipt := some { stored := [0, 8, 0], head := [0, 8], clocked := 3, lost := false } })).link.lastError = some .short ∧
    (after .frameReceive (State.reset.withLink { Link.reset with
      receipt := some { stored := [0, 0], head := [0, 0], clocked := 2, lost := false } })).link.lastError = none := by decide
/-- R192: with nothing to send, FFh goes out. -/
theorem test_idle_byte : (after (.byteClocked 0x12) State.reset).out = [.byte 0xFF] := by decide
/-- R186: reset keeps the lines, and reads the first tank that is present. -/
theorem test_reset : (
    let s := after .reset (onBus .idle (.held .standby tank) |>.withSupply
      { Supply.reset with presence := put Supply.reset.presence 3 true });
    s.tank 3 = .reading none ∧ s.tags.phase = .request ⟨3, .read, false⟩) := by decide
/-- Log entry 2: with nothing waiting a timer at 0 expires, and else it counts down. -/
theorem test_quiet_part : (∃ t, step State.reset = .next t ∧ t.colour.settle = some 9999) :=
  ⟨_, rfl, by decide⟩

/-- R150, R142: a fit starts the traverse of an ignored action that waits; under an outstanding swath it drops the
action (log entry 52), and starts the traverse of one that is not ignored. -/
theorem test_fit_under_swath :
    (let fit := fun op h => ((printing ticket op).withCutter { Cutter.reset with state := .worn (some h) }).fitBlade 9;
     (fit none { cut with ignored := true }).cutter.state = .cutting .farEnd 4000 { cut with ignored := true } ∧
     (fit (some ⟨.swath 0 100, false⟩) { cut with ignored := true }).cutter =
       { Cutter.reset with life := 9, state := .idle } ∧
     (fit (some ⟨.swath 0 100, false⟩) cut).cutter.life = 8) := by decide

/-- R130, R144: WORN is no media hold, whatever waits in it. -/
theorem test_worn_is_no_hold :
    (CutterState.worn (some { cut with ignored := true })).holdsMedia = false ∧
    (CutterState.jammed cut).holdsMedia = true := by decide

/-! ## States that meet the hypotheses of the statements -/

/-- Reference set 3 holds one target. -/
def withTarget (s : State) : State := s.setRefset 3 { targets := [⟨5000, 0, 0⟩], useCount := 0 }

/-- The parameters of an edition that is measured against reference set 3. -/
def measured : EditionParams := { params with policy := 1, refset := 3 }

/-- The machine after reset with a link of its own. -/
def linked (l : Link) : State := State.reset.withLink l

/-- A link whose command buffer holds a frame of `n` bytes and whose reply buffer holds `m` bytes. -/
def filled (n m : Nat) : Link :=
  { Link.reset with command := [{ length := n, tag := 0, request := .meterGet }], reply := List.replicate m 0 }

/-- A receipt. -/
def receipt (stored head : List Byte) (clocked : Nat) (lost : Bool) : Option Receipt :=
  some { stored := stored, head := head, clocked := clocked, lost := lost }

/-- A ticket in slot 0, waiting in the admitted queue, of an edition in slot 2. -/
def waiting (st : RunState) (e : Edition) (k : Ticket) : State :=
  ((inRun st).setEdition 2 e).withDesk
    { Desk.reset with tickets := put Desk.reset.tickets 0 (some k), admitted := [0] }

/-- Roll 0 in a state, threaded or not. -/
def rolled (r : Option Roll) (present : Bool) : State :=
  (inRun .idle).withMedia { Media.reset with rolls := #v[r, none], mediaPresent := #v[present, false] }

theorem witness_StepRunsTheFrontCommand :
    (State.reset.withPending [.meterGet 1]).pending = .meterGet 1 :: [] := rfl

theorem witness_QuietPart : State.reset.pending = [] ∧ State.reset.due = none ∧
    ((inRun .idle).withRun { (inRun .idle).run with dozeTimer := some 0 }).due = some .dozeTimerExpiry := by decide

theorem witness_ResetReturnsEveryRecord : (∀ x : TankId, State.reset.supply.presence[x] = false) ∧
    (let s := State.reset.withSupply { Supply.reset with presence := put (put Supply.reset.presence 23 true) 5 true };
     s.supply.presence[(5 : TankId)] = true ∧ ∀ y : TankId, y < 5 → s.supply.presence[y] = false) := by decide

theorem witness_EveryRequestIsAnsweredOnce :
    requestOf (.meterGet 1) = some (1, .meterGet) ∧ State.reset.takesAtOnce .meterGet ∧
      State.reset.run.reload.getLsbD 2 = false ∧ (RunRecord.reset.reload ||| 0b00100).getLsbD 2 = true :=
  ⟨rfl, takes _ _ rfl (by decide), by decide, by decide⟩

theorem witness_RefusedRequestsChangeNothing :
    requestOf (.editionHold 1 64) = some (1, .editionHold 64) ∧ State.reset.takesAtOnce (.editionHold 64) ∧
      (handle (.editionHold 64) State.reset.asked).2.status ≠ .ok ∧
      State.reset.takesAtOnce (.unknownRequest 0xFFFF 250) :=
  ⟨rfl, takes _ _ rfl (by decide), by decide, takes _ _ rfl (by decide)⟩

theorem witness_FramesWaitOrAreDiscarded :
    (linked (filled 1019 0)).link.freeCommand < 6 + bodyLengthOf .meterGet ∧
    6 + bodyLengthOf .meterGet ≤ (linked (filled 1018 955)).link.freeCommand ∧
    (linked (filled 1018 955)).link.freeReply < (linked (filled 1018 955)).link.limit + 6 ∧
    (linked { filled 8 0 with inProgress := some ⟨1, .ok, [], 64⟩ }).link.inProgress.isSome := by decide

theorem witness_ReplyFramesArePlacedInOrder :
    (State.reset.takesAtOnce (.ticketGet 0) ∧ 6 < State.reset.link.limit) ∧
    (let p : ReplyInProgress := ⟨1, .ok, List.replicate 60 2, 64⟩;
     let s := linked { Link.reset with inProgress := some p, reply := List.replicate 960 0 };
     s.link.inProgress = some p ∧ 6 < p.limit ∧ s.link.command = []) ∧
    (let s := linked (filled 8 955);
     s.link.inProgress = none ∧ 1024 < s.link.reply.length + s.link.limit + 6) :=
  ⟨⟨takes _ _ rfl (by decide), by decide⟩, by decide⟩

/-- R191: at the limit of 64 an edition record of 118 bytes goes as frames with bodies of 58, 58 and 2 bytes,
all but the last continued. -/
theorem test_reply_frames :
    (replyFrames 64 9 0 (List.replicate 118 7)).map (fun f => (f.length, f.take 6)) =
      [(64, [0, 64, 0, 9, 0, 1]), (64, [0, 64, 0, 9, 0, 1]), (8, [0, 8, 0, 9, 0, 0])] := by decide

theorem witness_ClockedByte :
    (State.reset.link.command = [] ∧ State.reset.link.inProgress = none ∧ State.reset.link.freeCommand ≠ 0) ∧
    (let s := linked { filled 1022 956 with receipt := receipt [0, 8] [0, 8] 2 false };
     1024 < s.link.reply.length + s.link.limit + 5 ∧ s.link.inProgress = none ∧ 6 ≤ ofBytes [0, 8] ∧
       s.link.freeCommand = 0) ∧
    (let r : Receipt := { stored := [0, 5], head := [0, 5], clocked := 2, lost := false };
     ¬(r.clocked < 2 ∨ (6 ≤ ofBytes r.head ∧ ofBytes r.head ≤ 256))) := by decide

theorem witness_SelectRise :
    (1 < 2 ∨ ofBytes [] = 0) ∧ (ofBytes [0, 0] = 0) ∧ (ofBytes [0, 5] < 6) ∧ (256 < ofBytes [1, 1]) ∧
    (ofBytes [0, 6] < 7) ∧ (6 < ofBytes [0, 7]) ∧
    (let r : Receipt := { stored := [0, 6, 0, 0x32, 0, 9], head := [0, 6], clocked := 6, lost := false };
     let s := linked { Link.reset with receipt := some r };
     2 ≤ r.clocked ∧ 6 ≤ ofBytes r.head ∧ ofBytes r.head ≤ 256 ∧ r.clocked = ofBytes r.head ∧ s.link.command = [] ∧
       s.link.ready = true ∧
       requestOf (.meterGet 9) = some (field r.stored 4 2, decodeRequest (field r.stored 2 2) (r.stored.drop 6)) ∧
       6 + bodyLengthOf (decodeRequest (field r.stored 2 2) (r.stored.drop 6)) ≤ 1024) := by decide

/-- A frame that passes while the reply buffer has no room, and one whose body is not its code's. -/
theorem witness_SelectRiseOthers :
    (let r : Receipt := { stored := [0, 6, 0, 0x32, 0, 9], head := [0, 6], clocked := 6, lost := false };
     let s := linked { filled 8 955 with receipt := some r };
     s.link.receipt = some r ∧ r.lost = false ∧ s.link.freeReply < s.link.limit + 6) ∧
    (let r : Receipt := { stored := [0, 7, 0, 0x31, 0, 9, 1], head := [0, 7], clocked := 7, lost := false };
     let s := linked { Link.reset with receipt := some r };
     r.clocked = ofBytes r.head ∧ s.link.command = [] ∧ s.link.ready = true ∧
       wrongBody (field r.stored 2 2) (r.stored.drop 6)) ∧
    wrongBody 0x70 [0, 0, 0] ∧ wrongBody 0x94 [0] ∧ wrongBody 0x68 [2] :=
  ⟨by decide, ⟨by decide, by decide, by decide, .inl ⟨8, by decide, by decide⟩⟩,
    .inr (.inl ⟨rfl, fun k _ => by simp only [List.length_cons, List.length_nil]; omega⟩),
    .inr (.inr (.inl (by decide))), .inr (.inr (.inr (by decide)))⟩

theorem witness_ReadsChangeNothing :
    (let s := (inRun .idle).setEdition 63 edition;
     s.edition 63 = some edition ∧ (∀ j f, s.edition j = some f → f.label = edition.label → j = 63) ∧
       s.takesAtOnce (.editionFind edition.label)) ∧ State.reset.takesAtOnce (.tankGet 23) ∧
    State.reset.takesAtOnce (.refsetGet 15) :=
  ⟨⟨rfl, by decide, takes _ _ rfl (by decide)⟩, takes _ _ rfl (by decide), takes _ _ rfl (by decide)⟩

theorem witness_Settings : State.reset.takesAtOnce (.feeSet 1000001 0) ∧ State.reset.takesAtOnce .houseClear ∧
    State.reset.takesAtOnce (.dropVolumesSet 11 0 401 400) ∧ (11 : ChannelId).val = 11 ∧ 11 < 12 ∧
    State.reset.takesAtOnce (.idleTimersSet 29 86401 0xFF) ∧
    State.reset.takesAtOnce (.purgeVolumesSet 2 (Vector.replicate 12 2000001)) ∧
    State.reset.takesAtOnce (.noticeClear 0xFFFFFF) ∧ State.reset.takesAtOnce (.linkSet (some 15)) ∧
    State.reset.takesAtOnce (.linkSet none) :=
  ⟨takes _ _ rfl (by decide), takes _ _ rfl (by decide), takes _ _ rfl (by decide), rfl, by decide,
    takes _ _ rfl (by decide), takes _ _ rfl (by decide), takes _ _ rfl (by decide), takes _ _ rfl (by decide),
    takes _ _ rfl (by decide)⟩

theorem witness_EditionCreate :
    (let s := withTarget State.reset;
     s.takesAtOnce (.editionCreate 63 measured) ∧ s.edition 63 = none ∧
     (∀ j e, s.edition j = some e → e.label ≠ measured.label) ∧ 1 ≤ measured.size ∧ measured.size ≤ 9999 ∧
     1 ≤ measured.mediaClass ∧ measured.mediaClass ≤ 255 ∧ measured.channels ≠ 0 ∧ measured.channels.toNat < 4096 ∧
     measured.policy = 1 ∧ measured.refset = (3 : RefsetId).val ∧ (s.refset 3).targets ≠ []) :=
  ⟨takes _ _ rfl (by decide), by decide⟩

/-- A creation for each of its refusals, the first of which is that of a slot above 63. -/
theorem witness_EditionCreateRefused :
    (let s := (inRun .idle).setEdition 2 edition;
     s.takesAtOnce (.editionCreate 64 params) ∧ 63 < 64 ∧ s.edition 2 ≠ none ∧
     (∃ j e, s.edition j = some e ∧ e.label = params.label) ∧ s.edition 63 = none ∧ (0 < 1 ∨ 9999 < 0) ∧
     (∀ j e, s.edition j = some e → e.label ≠ { measured with label := 8 }.label) ∧ measured.policy = 1 ∧ 15 < 16 ∧
     (s.refset 3).targets = []) :=
  ⟨takes _ _ rfl (by decide), by decide⟩

theorem witness_EditionSet :
    (let s := withTarget ((inRun .idle).setEdition 63 edition);
     let g : BitVec 16 := 0b111110001;
     s.takesAtOnce (.editionSet 63 g measured) ∧ s.edition 63 = some edition ∧ edition.state ≠ .complete ∧
     edition.state ≠ .closed ∧ (∀ j f, s.edition j = some f → j ≠ 63 → f.label ≠ measured.label) ∧
     (edition.locked = true → g.getLsbD 1 = false ∧ g.getLsbD 2 = false ∧ g.getLsbD 3 = false) ∧
     g.getLsbD 4 = true ∧ measured.policy = 1 ∧ measured.refset = (3 : RefsetId).val ∧ (s.refset 3).targets ≠ []) :=
  ⟨takes _ _ rfl (by decide), by decide⟩

/-- Every group of an edition that is not locked. -/
theorem witness_EditionSetUnlocked :
    (let e := { edition with locked := false };
     let s := (inRun .idle).setEdition 0 e;
     let g : BitVec 16 := 0b111111111;
     s.takesAtOnce (.editionSet 0 g params) ∧ s.edition 0 = some e ∧
     (∀ j f, s.edition j = some f → j ≠ 0 → f.label ≠ params.label) ∧
     (e.locked = true → g.getLsbD 1 = false ∧ g.getLsbD 2 = false ∧ g.getLsbD 3 = false) ∧
     1 ≤ params.size ∧ params.size ≤ 9999 ∧ params.channels ≠ 0 ∧ params.policy = 0) :=
  ⟨takes _ _ rfl (by decide), by decide⟩

/-- An EDITION_SET for each of its refusals, in the order of the checks. -/
theorem witness_EditionSetRefused :
    (let s := ((inRun .idle).setEdition 2 edition).setEdition 5 { edition with label := 8, state := .complete };
     s.takesAtOnce (.editionSet 64 0 params) ∧
     (∀ i : EditionId, i.val = 64 → s.edition i = none) ∧ (∀ i : EditionId, i.val = 63 → s.edition i = none) ∧
     s.edition 5 = some { edition with label := 8, state := .complete } ∧
     s.edition 2 = some edition ∧ edition.state ≠ .complete ∧ edition.state ≠ .closed ∧
     (∃ j f, s.edition j = some f ∧ j ≠ 2 ∧ f.label = { params with label := 8 }.label) ∧ edition.locked = true ∧
     (0b10 : BitVec 16).getLsbD 1 = true ∧
     (let p := { params with size := 0 };
      ¬ ((0b10000 : BitVec 16).getLsbD 1 = true ∨ (0b10000 : BitVec 16).getLsbD 2 = true ∨
        (0b10000 : BitVec 16).getLsbD 3 = true) ∧ 2 ≤ { p with policy := 2 }.policy) ∧
     (0b10000 : BitVec 16).getLsbD 4 = true ∧ measured.policy = 1 ∧ measured.refset ≤ 15 ∧
     ∃ r : RefsetId, r.val = measured.refset ∧ (s.refset r).targets = []) :=
  ⟨takes _ _ rfl (by decide), by decide, by decide, by decide, by decide, by decide, by decide, by decide,
    by decide, by decide, by decide, by decide, by decide, by decide, 3, by decide⟩

theorem witness_HoldAndClose :
    (let k := { ticket with state := .admitted };
     let s := waiting .waking edition k;
     s.edition 2 = some edition ∧ s.desk.admitted.Nodup ∧
     [0] = (s.desk.admitted.filter fun x => match s.ticket x with | some k => k.edition == 2 | none => false) ∧
     s.takesAtOnce (.editionHold 2) ∧ s.takesAtOnce (.editionClose 2) ∧ edition.state = .opened) :=
  ⟨by decide, by decide, by decide, takes _ _ rfl (by decide), takes _ _ rfl (by decide), by decide⟩

theorem witness_Release :
    (let e := { edition with state := .held, pins := put edition.pins 0 (some 8) };
     let s := (fed tank .empty).setEdition 2 e;
     s.takesAtOnce (.editionRelease 2) ∧ s.edition 2 = some e ∧ e.state = .held ∧
     (∀ x, x ∈ s.desk.admitted → ∀ k, s.ticket x = some k → k.edition ≠ 2) ∧ e.channels.getLsbD (0 : ChannelId).val = true ∧
     e.pins[(0 : ChannelId)] = some 8 ∧ s.feedingLot 0 = some 9 ∧ (8 : Nat) ≠ 9) ∧
    (let e := { edition with state := .held };
     let s := (fed tank .empty).setEdition 2 e;
     e.requalify = false ∧ ∀ c : ChannelId, e.channels.getLsbD c.val = true → ∀ p, e.pins[c] = some p → ∀ lot,
       s.feedingLot c = some lot → p = lot) :=
  ⟨⟨takes _ _ rfl (by decide), by decide⟩, by decide⟩

theorem witness_Retire :
    (let e := { edition with state := .closed, inFlight := 0 };
     let s := (inRun .idle).setEdition 2 e;
     s.takesAtOnce (.editionRetire 2) ∧ s.edition 2 = some e ∧ e.state ≠ .opened ∧ e.state ≠ .qualify ∧ e.inFlight = 0 ∧
     (∀ x k, s.ticket x = some k → k.edition = 2 → k.state ≠ .closedGood ∧ k.state ≠ .closedSpoiled)) ∧
    0 < edition.inFlight ∧
    (let s := State.reset.setTicket 7 { ticket with state := .closedGood };
     ∃ x k, s.ticket x = some k ∧ k.edition = 2 ∧ (k.state = .closedGood ∨ k.state = .closedSpoiled)) :=
  ⟨⟨takes _ _ rfl (by decide), by decide⟩, by decide, by decide⟩

theorem witness_Restore :
    (let s := fed tank .empty;
     s.takesAtOnce (.editionRestore 63 restored) ∧ s.edition 63 = none ∧
     (∀ j e, s.edition j = some e → e.label ≠ restored.label) ∧ restored.state = EditionState.opened.code ∧
     1 ≤ restored.size ∧ restored.size ≤ 9999 ∧ 1 ≤ restored.mediaClass ∧ restored.mediaClass ≤ 255 ∧
     restored.channels ≠ 0 ∧ restored.channels.toNat < 4096 ∧ 1 ≤ restored.next ∧ restored.next ≤ restored.size + 1 ∧
     restored.returnLength ≤ 8 ∧
     (let given := restored.returnPlaces.toList.take restored.returnLength;
      given.Pairwise (· < ·) ∧ (∀ n ∈ given, 1 ≤ n ∧ n ≤ restored.next - 1) ∧
        restored.good + given.length = restored.next - 1) ∧
     restored.unverified ≤ restored.good ∧ restored.good ≠ restored.size ∧ EditionState.opened ≠ .complete ∧
     restored.measure = false ∧ (∀ x, x ∈ s.desk.admitted → ∀ k, s.ticket x = some k → k.edition ≠ 63)) :=
  ⟨takes _ _ rfl (by decide), by decide⟩

theorem witness_FeedingReport :
    ((inRun .idle).setEdition 2 edition).edition 2 = some edition ∧ edition.channels.getLsbD (1 : ChannelId).val = false ∧
    edition.channels.getLsbD (0 : ChannelId).val = true ∧ edition.pins[(0 : ChannelId)] = none ∧
    (let e := { edition with pins := put edition.pins 0 (some 8) };
     ((inRun .idle).setEdition 2 e).edition 2 = some e ∧ e.pins[(0 : ChannelId)] = some 8 ∧ (8 : Nat) ≠ 9 ∧
       e.state = .opened) := by decide

/-- A started ticket of the edition that sees the lot change, and one that a report leaves alone. -/
theorem witness_LotChange :
    (let e := { edition with pins := put edition.pins 0 (some 8), state := .qualify };
     let s := (printing { ticket with qualifying := true } none).setEdition 2 e;
     s.edition 2 = some e ∧ s.ticket 0 = some { ticket with qualifying := true } ∧ ticket.edition = 2 ∧
     0 ∉ s.desk.admitted ∧ (e.channels.getLsbD (0 : ChannelId).val = true ∧ e.pins[(0 : ChannelId)] = some 8 ∧
     (8 : Nat) ≠ 9) ∧ 0 < ticket.swathCount ∧ ticket.state = .printing) ∧
    (printing ticket none).edition 2 = some edition ∧ edition.pins[(0 : ChannelId)] = none := by decide

theorem witness_QualifyEntry :
    (let k := { ticket with state := .admitted };
     let s := (withTarget (waiting .waking { edition with refset := some 3 } k)).withMedia
       { Media.reset with rolls := #v[some roll, none] };
     s.edition 2 = some { edition with refset := some 3 } ∧ s.desk.admitted.Nodup ∧
     (s.desk.admitted.filter fun y => match s.ticket y with | some k => k.edition == 2 | none => false) = 0 :: [] ∧
     s.ticket 0 = some k ∧ s.roll k.roll = some roll ∧ (s.refset 3).targets.length * 25 + 40 ≤ roll.width ∧
     k.l + (if k.lp = 0 then 20 else 0) ≤ 30000 ∧
     s.reservation k.roll + (if k.lp = 0 then 20 else 0) + 750 ≤ roll.remaining) ∧
    (let s := waiting .waking edition { ticket with state := .admitted };
     s.edition 2 = some edition ∧ edition.refset = none ∧ 0 ∈ s.desk.admitted ∧
       s.ticket 0 = some { ticket with state := .admitted }) ∧
    roll.width < 24 * 25 + 40 := by decide

theorem witness_NumberMoves : ({ edition with returns := [1] } : Edition).returns ≠ [] ∧ edition.returns = [] ∧
    1 ≤ edition.inFlight ∧ edition.returns.Pairwise (· ≤ ·) := by decide

theorem witness_NumberingSound : (printing ticket none).numberingSound := by
  unfold State.numberingSound
  decide

theorem witness_Admission :
    (let s := ((inRun .idle).setEdition 2 edition).withMedia { Media.reset with rolls := #v[some roll, none] };
     s.takesAtOnce (.printAdmit 2 0 50 10) ∧ s.takesAtOnce (.printAdmit 2 500 29000 500) ∧ s.edition 2 = some edition ∧
     s.run.state ≠ .engineWait ∧ s.run.state ≠ .draining ∧ s.run.state ≠ .halted ∧ edition.state = .opened ∧
     edition.next ≠ edition.size + 1 ∧ 150 ≤ 90 + 50 + 0 + 10 ∧ 500 + 29000 + 0 + 500 ≤ 30000 ∧ s.ticket 0 = none ∧
     (∀ y : TicketId, y < 0 → s.ticket y ≠ none) ∧ s.roll 0 = some roll ∧ roll.state = .active ∧
     (∀ r' ρ', s.roll r' = some ρ' → ρ'.state = .active → r' = 0) ∧ roll.mediaClass = edition.mediaClass ∧
     s.reservation 0 + 750 + (90 + 50 + 0 + 10) ≤ roll.remaining) ∧
    (let e := { edition with state := .qualify, refset := some 3, returns := [1] };
     let s := (withTarget ((inRun .capped).setEdition 2 e)).withMedia { Media.reset with rolls := #v[none, some roll] };
     s.edition 2 = some e ∧ e.refset ≠ none ∧ e.returns ≠ [] ∧
     (∀ y k, s.ticket y = some k → k.edition = 2 → k.qualifying = true → k.state = .closedGood ∨ k.state = .closedSpoiled) ∧
     (s.refset 3).targets.length * 25 + 40 ≤ roll.width ∧ s.roll 1 = some roll) :=
  ⟨⟨takes _ _ rfl (by decide), takes _ _ rfl (by decide), by decide⟩, by decide⟩

theorem witness_AdmissionRefused :
    State.reset.takesAtOnce (.printAdmit 64 0 50 10) ∧ 63 < 64 ∧ State.reset.run.state = .engineWait ∧
    (inRun .idle).edition 63 = none ∧ (inRun .idle).takesAtOnce (.printAdmit 63 0 50 10) ∧
    (let e := { edition with state := .held };
     ((inRun .idle).setEdition 2 e).edition 2 = some e ∧ e.state ≠ .opened ∧ e.state ≠ .qualify) ∧
    (let e := { edition with next := 11 };
     ((inRun .idle).setEdition 2 e).edition 2 = some e ∧ e.state = .opened ∧ e.returns = [] ∧ e.next = e.size + 1) ∧
    ((edition.returns ≠ [] ∨ edition.next ≠ edition.size + 1) ∧ 500 < 501 ∧ 49 < 50 ∧ 29000 < 29001 ∧ 9 < 10) :=
  ⟨takes _ _ rfl (by decide), by decide, by decide, by decide, takes _ _ rfl (by decide), by decide⟩

/-- An admission for each check of R24 from the third on, in their order. -/
theorem witness_AdmissionChain :
    (let q := { edition with state := .qualify, refset := some 3 };
     ((((inRun .idle).setEdition 2 q).setTicket 7 { ticket with qualifying := true }).takesAtOnce (.printAdmit 2 0 50 10) ∧
       ∃ y k, (((inRun .idle).setEdition 2 q).setTicket 7 { ticket with qualifying := true }).ticket y = some k ∧
         k.edition = 2 ∧ k.qualifying = true ∧ k.state ≠ .closedGood ∧ k.state ≠ .closedSpoiled) ∧
     (∀ y k, ((inRun .idle).setEdition 2 { q with refset := none }).ticket y = some k → k.edition ≠ 2) ∧
     (let s := ((inRun .idle).setEdition 2 edition).withDesk
        { Desk.reset with tickets := Vector.replicate 8 (some { ticket with edition := 3 }) };
      ∀ x, s.ticket x ≠ none) ∧
     ((∃ x, (inRun .idle).ticket x = none) ∧ ∀ r ρ, (inRun .idle).roll r = some ρ → ρ.state ≠ .active) ∧
     (let s := (withTarget ((inRun .idle).setEdition 2 q)).withMedia
        { Media.reset with rolls := #v[some { roll with width := 254, remaining := 900 }, none] };
      s.roll 0 = some { roll with width := 254, remaining := 900 } ∧
      (∀ r' ρ', s.roll r' = some ρ' → ρ'.state = .active → r' = 0) ∧ roll.mediaClass ≠ 6 ∧ 254 < 24 * 25 + 40 ∧
      254 ≥ (s.refset 3).targets.length * 25 + 40 ∧ 900 < s.reservation 0 + 750 + 151) ∧
     0 + 50 + 20 + 10 < 150 ∧ 500 + 29000 + 20 + 500 > 30000) :=
  ⟨⟨takes _ _ rfl (by decide), by decide⟩, by decide⟩

theorem witness_Start :
    (let k := { ticket with state := .admitted, start := none, fed := 0 };
     let s := waiting .running edition k;
     s.desk.admitted = 0 :: [] ∧ 0 ∉ ([] : List TicketId) ∧ s.ticket 0 = some k ∧ s.run.state = .running ∧
     s.desk.path.length < 6 ∧ (∀ y, y ∈ s.desk.path → ∀ k', s.ticket y = some k' → k'.fed = k'.l)) ∧
    (inRun .idle).run.state ≠ .running ∧ 6 ≤ (List.replicate 6 (1 : TicketId)).length := by decide

theorem witness_CancelAndCollect :
    (let k := { ticket with state := .admitted };
     let s := waiting .idle edition k;
     s.takesAtOnce (.ticketCancel 0) ∧ s.ticket 0 = some k ∧ k.state = .admitted ∧ s.edition k.edition = some edition) ∧
    (let s := printing { ticket with pauseTimer := some 0 } none;
     s.takesAtOnce (.ticketCancel 0) ∧ s.ticket 0 = some { ticket with pauseTimer := some 0 }) ∧
    State.reset.ticket 7 = none ∧
    (let k := { ticket with state := .closedSpoiled };
     (State.reset.setTicket 7 k).ticket 7 = some k ∧ k.outstanding = false ∧
       (State.reset.setTicket 7 k).takesAtOnce (.ticketCollect 7)) :=
  ⟨⟨takes _ _ rfl (by decide), by decide⟩, ⟨takes _ _ rfl (by decide), by decide⟩, by decide, by decide, by decide,
    takes _ _ rfl (by decide)⟩

theorem witness_CancelRefused : State.reset.takesAtOnce (.ticketCancel 8) ∧ State.reset.takesAtOnce (.ticketCollect 8) ∧
    7 < 8 ∧ State.reset.takesAtOnce (.ticketCollect 7) ∧ State.reset.ticket 7 = none :=
  ⟨takes _ _ rfl (by decide), takes _ _ rfl (by decide), by decide, takes _ _ rfl (by decide), by decide⟩

theorem witness_TrailCutClose :
    (let k := { ticket with state := .travelling, fed := 1200, acc := 1500000, fees := 3, verdict := .warn, qualifying := true };
     let e := { edition with state := .qualify, good := 9 };
     let s := (State.reset.setEdition 2 e).setTicket 0 k;
     s.ticket 0 = some k ∧ 0 ∉ s.desk.admitted ∧ s.edition k.edition = some e ∧
       k.acc / 1000000 + (if 500000 ≤ k.acc % 1000000 then 1 else 0) + k.fees = 5 ∧ e.good + 1 = e.size) := by decide

theorem witness_SwathDrops :
    (let s := ((fed tank .empty).setTicket 0 ticket).withCosting
       { Costing.reset with residues := put Costing.reset.residues 0 9999 };
     let v := min 1 268435455 * s.costing.volumes[(0 : ChannelId)].small + min 0 268435455 * s.costing.volumes[(0 : ChannelId)].medium +
       min 0 268435455 * s.costing.volumes[(0 : ChannelId)].large;
     s.ticket 0 = some ticket ∧ s.costing.residues[(0 : ChannelId)] < 10000 ∧ (s.channel 0).feed = .fed .a ∧
     s.tank (tankOf 0 .a) = .held .feeding tank ∧ 1 = min 1 tank.fill ∧ 1 + 0 = 1 ∧
     10000 * 1 ≤ s.costing.residues[(0 : ChannelId)] + v ∧ s.costing.residues[(0 : ChannelId)] + v < 10000 * 1 + 10000) ∧
    (let s := fed { tank with fill := 30000001 } (.held .standby tank);
     (s.channel 0).feed = .fed .a ∧ s.tank (tankOf 0 .a) = .held .feeding { tank with fill := 30000001 } ∧
     (s.channel 0).floor * 1000000 < 30000001 ∧ 30000001 - min 1 30000001 ≤ (s.channel 0).floor * 1000000 ∧
     30000001 - min 28000001 30000001 ≤ (s.channel 0).level * 1000000 ∧
     (s.tank (tankOf 0 Side.b) = .held .standby tank ∧ tank.releasePending = false)) := by decide

theorem witness_PurgeReport :
    (let v : Vector Nat 12 := put (Vector.replicate 12 0) 3 2000001;
     let s := State.reset.withEngine { EngineLink.reset with op := some ⟨.purge 0b1000 v, false⟩ };
     s.engine.op = some ⟨.purge 0b1000 v, false⟩ ∧ (∀ b : ChannelId, b ≠ 3 → v[b] = 0) ∧ 0 < v[(3 : ChannelId)] ∧
       (s.channel 3).feed = .starved) := by decide

/-- Two channels reported together, one of them FED and run dry by the debit. -/
theorem witness_PurgeReportFed :
    (let v : Vector Nat 12 := put (put (Vector.replicate 12 0) 3 2000001) 0 1500000;
     let r := { tank with fill := 1000000 };
     let s := (fed r .empty).withEngine { EngineLink.reset with op := some ⟨.purge 0b1001 v, true⟩ };
     s.engine.op = some ⟨.purge 0b1001 v, true⟩ ∧ 0 < v[(0 : ChannelId)] ∧ 0 < v[(3 : ChannelId)] ∧
       v[(1 : ChannelId)] = 0 ∧ (s.channel 0).feed = .fed .a ∧ s.tank (tankOf 0 .a) = .held .feeding r ∧
       (s.channel 3).feed = .starved ∧ s.chargeOf 0 1500000 = 1000000 * 7 + 500000 * 7) := by decide

theorem witness_Presence : State.reset.tank 23 = .empty ∧
    (let s := onBus (.turnaround ⟨3, .read, false⟩ 4) (.reading none);
     s.tank 3 ≠ .empty ∧ (s.channel (channelOf 3)).feed = .starved) ∧
    (let s := fed tank (.held .standby tank);
     s.tank (tankOf 0 .a) = .held .feeding tank ∧ (s.channel 0).feed = .fed .a ∧
       s.tank (tankOf 0 Side.b) = .held .standby tank) ∧
    ((switching.channel 0).feed = .switching .b 1500 ∧ switching.tank (tankOf 0 .b) = .held .standby { tank with lot := 11 } ∧
      switching.tank (tankOf 0 Side.a) = .held .feeding tank) := by decide

/-- A tag image of tank slot 3 (channel 1) with the fields of the tests' tank. -/
def image (format kind : Byte) (expiry : Byte) : List Byte :=
  let body : List Byte := [format, kind, 0, 0, 0, 9, 1, 0xF4, 0x11, 0xE1, 0xA3, 0, 0, 0, 7, 0, expiry, 0]
  body ++ toBytes 2 (crc16 body).toNat

theorem witness_Image :
    ((onBus .idle (.reading (some 5))).tank 3 = .reading (some 5)) ∧
    (let b := image 0x5A 2 40; imageCrcOk b = true ∧ field b 0 1 = 0x5A ∧ field b 1 1 = (channelOf 3).val + 1 ∧
      field b 6 2 = 500 ∧ field b 8 4 = 300000000 ∧ field b 15 2 = 40) ∧
    (imageCrcOk (image 0x5A 2 40).dropLast = false) ∧ field (image 0x5B 2 40) 0 1 ≠ 0x5A ∧
    field (image 0x5A 3 40) 1 1 ≠ (channelOf 3).val + 1 ∧ ((41 : Nat) ≠ 0 ∧ field (image 0x5A 2 40) 15 2 < 41) := by decide

theorem witness_Switchover : (State.reset.channel 0).feed = .starved ∧
    (let r := { tank with lot := 11 };
     let s := switching.setEdition 2 { edition with pins := put edition.pins 0 (some 9) };
     (s.channel 0).feed = .switching .b 1500 ∧ s.tank (tankOf 0 .b) = .held .standby r ∧
     (s.channel 0).level * 1000000 < r.fill ∧ s.tank (tankOf 0 Side.a) = .held .feeding tank ∧
     s.edition 2 = some { edition with pins := put edition.pins 0 (some 9) } ∧ (9 : Nat) ≠ r.lot) := by decide

theorem witness_ReleaseAndReread :
    (let s := onBus .idle (.held .spent tank);
     s.takesAtOnce (.tankRelease 3) ∧ s.tank 3 = .held .spent tank ∧ tank.releasePending = false ∧
       (s.channel (channelOf 3)).feed = .starved) ∧
    (let s := fed tank .empty;
     s.takesAtOnce (.tankRelease 0) ∧ s.tank 0 = .held .feeding tank ∧ (s.channel (channelOf 0)).feed = .fed .a ∧
       tankOf (channelOf 0) .a = 0 ∧ (∀ z k, s.ticket z = some k → k.state ≠ .printing)) ∧
    (∃ z k, ((fed tank .empty).setTicket 7 ticket).ticket z = some k ∧ k.state = .printing) ∧
    (onBus .idle (.rejectedBare .check (some 5))).tank 3 = .rejectedBare .check (some 5) ∧
    (onBus .idle (.held .released tank)).tank 3 = .held .released tank ∧
    (onBus .idle (.held .released tank)).takesAtOnce (.tankReread 3) :=
  ⟨⟨takes _ _ rfl (by decide), by decide⟩, ⟨takes _ _ rfl (by decide), by decide⟩, by decide, by decide, by decide,
    takes _ _ rfl (by decide)⟩

/-- The refusals by the slot's number, by its state and by a switchover. -/
theorem witness_ReleaseRefused :
    State.reset.takesAtOnce (.tankRelease 24) ∧ State.reset.takesAtOnce (.tankReread 24) ∧ 23 < 24 ∧
    State.reset.tank 23 = .empty ∧ (onBus .idle (.reading none)).tank 3 = .reading none ∧
    switching.takesAtOnce (.tankRelease 0) ∧ (switching.channel 0).feed = .switching .b 1500 ∧
    switching.tank 0 = .held .feeding tank ∧ switching.tank 1 = .held .standby { tank with lot := 11 } ∧
    tankOf (channelOf 1) .b = 1 :=
  ⟨takes _ _ rfl (by decide), takes _ _ rfl (by decide), by decide, by decide, by decide, takes _ _ rfl (by decide),
    by decide⟩

theorem witness_ChannelSet :
    (let s := fed { tank with fill := 40000000 } (.held .standby tank);
     s.takesAtOnce (.channelSet 0 100 100) ∧ s.takesAtOnce (.channelSet 0 1 1) ∧ (s.channel 0).feed = .fed .a ∧
     s.tank (tankOf 0 .a) = .held .feeding { tank with fill := 40000000 } ∧ (s.channel 0).floor * 1000000 < 40000000 ∧
     40000000 ≤ 40 * 1000000 ∧ s.tank (tankOf 0 Side.b) = .held .standby tank ∧ 39 * 1000000 < 40000000) ∧
    State.reset.takesAtOnce (.channelSet 11 0 0) ∧ 0 < 1 ∧ 100 < 101 ∧ 10 < 11 :=
  ⟨⟨takes _ _ rfl (by decide), takes _ _ rfl (by decide), by decide⟩, takes _ _ rfl (by decide), by decide⟩

theorem witness_ChannelSetSlot : State.reset.takesAtOnce (.channelSet 12 50 20) ∧ 11 < 12 :=
  ⟨takes _ _ rfl (by decide), by decide⟩

theorem witness_DateSet :
    (let s := onBus .idle (.held .standby tank);
     s.takesAtOnce (.dateSet 41) ∧ s.takesAtOnce (.dateSet 0) ∧ (∀ c : ChannelId, (s.channel c).feed = .starved) ∧
     s.tank 3 = .held .standby tank ∧ tank.releasePending = false ∧ tank.expiry ≠ 0 ∧ tank.expiry < 41 ∧ ¬ tank.expiry < 40) :=
  ⟨takes _ _ rfl (by decide), takes _ _ rfl (by decide), by decide⟩

theorem witness_DateSetAbandons :
    switching.takesAtOnce (.dateSet 41) ∧ (switching.channel 0).feed = .switching .b 1500 ∧
    switching.tank (tankOf 0 .b) = .held .standby { tank with lot := 11 } ∧ tank.releasePending = false ∧
    tank.expiry ≠ 0 ∧ tank.expiry < 41 ∧ switching.tank (tankOf 0 Side.b.other) = .held .feeding tank :=
  ⟨takes _ _ rfl (by decide), by decide⟩

theorem witness_TagBus :
    (onBus (.request ⟨3, .read, false⟩) (.reading none)).tags.phase = .request ⟨3, .read, false⟩ ∧
    (onBus (.turnaround ⟨3, .read, true⟩ 0) (.reading none)).tags.phase = .turnaround ⟨3, .read, true⟩ 0 ∧
    (onBus (.guard 0) .empty).tags.phase = .guard 0 ∧
    (let f := sealed [3, 0x01] ++ []; f.length = 3 ∧ sealOk f = true ∧ field f 0 1 = 3) ∧
    (let f := sealed ([3, 0x01] ++ image 0x5A 2 40); f.length = 23 ∧ sealOk f = true ∧ field f 0 1 = 3 ∧ field f 1 1 = 1) ∧
    (let f := sealed [3, 0x02, 0, 0, 0, 5]; f.length = 7 ∧ sealOk f = true ∧ field f 0 1 = 3 ∧ field f 1 1 = 2 ∧ field f 2 4 = 5) ∧
    (let f := sealed [3, 0xEE, 4]; f.length = 4 ∧ sealOk f = true ∧ field f 0 1 = 3 ∧ field f 1 1 = 0xEE ∧ field f 2 1 = 4) ∧
    (let s := onBus (.turnaround ⟨3, .write 5, false⟩ 2) (.held .standby tank);
     s.tags.waiting[(3 : TankId)] = none ∧ s.tank 3 = .held .standby tank) ∧ sealOk [3, 1, 0] = false := by decide

theorem witness_BusServes :
    (let s := State.reset.withTags { TagBus.reset with waiting := put (put TagBus.reset.waiting 22 (some .read)) 2 (some (.write 5)) };
     s.tags.phase = .idle ∧ s.tags.waiting[(2 : TankId)] = some (.write 5) ∧ 2 < 24 ∧
     (2 : TankId).val = (s.tags.pointer.val + 1 + 2) % 24 ∧
     (∀ y : TankId, ∀ m, m < 2 → y.val = (s.tags.pointer.val + 1 + m) % 24 → s.tags.waiting[y] = none)) ∧
    (let s := State.reset.withTags { TagBus.reset with waiting := put TagBus.reset.waiting 23 (some .read) };
     s.tags.phase = .idle ∧ s.tags.waiting[(23 : TankId)] = some .read ∧ 23 < 24 ∧
     (23 : TankId).val = (s.tags.pointer.val + 1 + 23) % 24 ∧
     (∀ y : TankId, ∀ m, m < 23 → y.val = (s.tags.pointer.val + 1 + m) % 24 → s.tags.waiting[y] = none)) ∧
    (none : Option TagOp) ≠ some .read := by decide

theorem witness_Rolls :
    (let s := rolled none true;
     s.takesAtOnce (.rollLoad 0 255 1626 300000 10000001) ∧ (∀ x, s.roll 0 = some x → x.state ≠ .active) ∧
     (∀ y k, s.ticket y = some k → k.roll = 0 → k.outstanding = false) ∧ s.media.mediaPresent[(0 : RollId)] = true ∧
     s.media.rollEnd[(0 : RollId)] = false) ∧
    (let s := rolled (some roll) true;
     s.takesAtOnce (.rollSet 0 0b11 5 20000) ∧ s.takesAtOnce (.rollSelect 0) ∧ s.takesAtOnce (.rollUnload 0) ∧
     s.roll 0 = some roll ∧ roll.state ≠ .ended ∧ roll.threshold < roll.remaining ∧ roll.remaining ≤ 20000 ∧
     s.desk.admitted = [] ∧ s.desk.path = [] ∧ s.engine.op = none ∧
     (∀ a y, s.roll a = some y → ∀ b z, s.roll b = some z → y.state = .active → z.state = .active → a = b)) :=
  ⟨⟨takes _ _ rfl (by decide), by decide⟩, takes _ _ rfl (by decide), takes _ _ rfl (by decide),
    takes _ _ rfl (by decide), by decide⟩

theorem witness_Eject : State.reset.takesAtOnce (.ejectDelaySet 9) ∧ State.reset.takesAtOnce .eject ∧
    State.reset.desk.path = [] ∧
    (let s := printing { ticket with state := .travelling, fed := 1200 } none;
     s.desk.path ≠ [] ∧ s.desk.admitted = [] ∧ (∀ x, x ∈ s.desk.path → ∀ k, s.ticket x = some k → k.fed = k.l)) ∧
    (let s := printing ticket none;
     s.desk.path ≠ [] ∧ ∃ x, x ∈ s.desk.path ∧ ∃ k, s.ticket x = some k ∧ k.fed ≠ k.l) :=
  ⟨takes _ _ rfl (by decide), takes _ _ rfl (by decide), by decide⟩

theorem witness_RollLines : (rolled (some roll) true).roll 0 = some roll ∧ roll.state = .active ∧
    (rolled (some { roll with state := .loaded }) true).roll 0 = some { roll with state := .loaded } ∧
    (∀ x, (rolled none false).roll 0 = some x → x.state = .ended) ∧
    (∀ x, (rolled (some { roll with state := .ended }) true).roll 0 = some x → x.state = .ended) := by decide

/-- As `printing`, with channel 0 FED, so that no hold applies. -/
def grantable (k : Ticket) : State :=
  (printing k none).withSupply { Supply.reset with
    channels := put Supply.reset.channels 0 { Channel.reset with feed := .fed .a },
    tanks := put Supply.reset.tanks 0 (.held .feeding tank) }

theorem witness_SwathRequest : State.reset.run.state = .engineWait ∧
    (∀ k, (inRun .running).ticket 7 = some k → k.state ≠ .printing) ∧ 1 ≤ 127 ∧ 127 ≤ 127 ∧
    (let s := grantable ticket;
     s.run.state ≠ .engineWait ∧ s.ticket 0 = some ticket ∧ ticket.state = .printing ∧ s.engine.request = none ∧
     s.run.state = .running ∧ s.engine.op = none ∧ s.holds 0 = [] ∧ s.run.slot = none ∧ s.run.manual = none ∧
     (∀ c : ChannelId, s.run.needsPurge[c] = none) ∧ s.media.eject = false) := by decide

/-- A request that is held, by each kind of hold, and one that finds another pending. -/
theorem witness_SwathRequestHeld :
    (let s := printing ticket none;
     s.run.state ≠ .engineWait ∧ s.ticket 0 = some ticket ∧ ticket.state = .printing ∧ s.engine.request = none ∧
     0 ∉ s.desk.admitted ∧ s.edition ticket.edition = some edition ∧
     edition.channels.getLsbD (0 : ChannelId).val = true ∧ (s.channel 0).feed = .starved) ∧
    ((grantable ticket).withEngine { EngineLink.reset with owed := some (0, 5) }).engine.owed ≠ none ∧
    (cutting (.jammed cut) 4).cutter.state = .jammed cut ∧ (sensing .measuring none).colour.sensor = .measuring ∧
    (let s := (grantable ticket).withEngine { EngineLink.reset with request := some ⟨0, 127, false⟩ };
     s.engine.request = some ⟨0, 127, false⟩ ∧ s.ticket 0 = some ticket) := by decide

/-- No head care is wanted of a machine that runs with no needs-purge and no manual purge. -/
theorem wants_nothing (s : State) (h : s.run.state = .running) (n : s.run.needsPurge = Vector.replicate 12 none)
    (m : s.run.manual = none) (o : HeadOp) : ¬ s.wants o := by
  rcases o with _ | _ | _ | ⟨_ | c | _⟩
  · rintro ⟨h', -⟩; simp [h] at h'
  · rintro ⟨h', -⟩; simp [h] at h'
  · rintro ⟨h', -⟩; simp [h] at h'
  · rintro ⟨h', -⟩; simp [h] at h'
  · rintro ⟨-, ⟨-, hc⟩, -⟩; simp [n] at hc
  · rintro ⟨-, hm, -⟩; exact hm m

/-- A FEED that is due: an owed one, short of the next stop and beyond it, and one for an eject. -/
theorem witness_FeedDue :
    (let s := (grantable ticket).withEngine { EngineLink.reset with owed := some (0, 2000) };
     s.engine.op = none ∧ s.run.slot = none ∧ (∀ o, ¬ s.wants o) ∧ s.cutter.state = .worn none ∧
     s.colour.sensor = .uncalibrated ∧ s.engine.owed = some (0, 2000) ∧ s.media.position < 1850 ∧
     (s.media.stops.head?.map (·.position)) = some 1850) ∧
    (let s := (grantable ticket).withMedia { Media.reset with
       position := 5, stops := [{ position := 9, actions := [] }], eject := true };
     s.media.eject = true ∧ s.engine.owed = none ∧ s.media.position < 9) :=
  ⟨⟨by decide, by decide, wants_nothing _ rfl rfl rfl, by decide, by decide, by decide, by decide, by decide⟩, by decide⟩

theorem witness_NothingMovesMedia :
    (inRun .running).engine.op = none ∧ (cutting (.jammed cut) 3).cutter.state = .jammed cut ∧
    (cutting (.cutting .farEnd 3 cut) 3).cutter.state = .cutting .farEnd 3 cut ∧
    (sensing .measuring (some read)).colour.sensor = .measuring ∧
    (printing ticket (some ⟨.swath 0 100, false⟩)).engine.op = some ⟨.swath 0 100, false⟩ := by decide

/-- A step that sends a GRANT. -/
theorem witness_GrantIsSent :
    (let s := (grantable ticket).withPending [.swathRequest 0 127];
     s.link.command = [] ∧ ∃ t, step s = .next t ∧ .engine (.grant 0 127) ∈ t.out) :=
  ⟨by decide, _, rfl, by decide⟩

/-- A moving engine with an ignored action that waits for a blade: the media-still law allows it. -/
theorem witness_IgnoredWaitsUnderASwath :
    (let s := (printing ticket (some ⟨.swath 0 100, false⟩)).withCutter
       { Cutter.reset with state := .worn (some { cut with ignored := true }) };
     s.takesAtOnce (.bladeFit 9) ∧ s.moving ∧
     ∀ h, s.cutter.state = .worn (some h) → h.ignored = true) :=
  ⟨takes _ _ rfl (by decide), .inl ⟨_, _, _, rfl⟩, fun _ h => by cases h; rfl⟩

/-- The media-still law with a cut at hand: the separate cut of the ticket that prints. -/
theorem witness_MediaStill :
    (let cut1 : StopAction := { kind := .separate, ticket := 0, handed := true };
     let cut2 : StopAction := { kind := .trailCut, ticket := 0, handed := false };
     let s := ((printing ticket none).withMedia { Media.reset with
       position := 1850, stops := [⟨1850, [cut1]⟩, ⟨1950, [cut2]⟩] }).withCutter
         { Cutter.reset with state := .cutting .farEnd 9 cut };
     s.mediaStill ∧ s.numberingSound ∧ s.media.ordered) := by
  refine ⟨⟨fun h => ?_, fun h => ?_, ?_, ?_, by decide, by decide⟩, ?_, ?_⟩
  · rcases h with ⟨_, _, _, h⟩ | ⟨_, _, _, h⟩ <;> cases h
  · rcases h with ⟨_, _, _, h⟩ | ⟨_, _, _, h⟩ <;> cases h
  · rintro h (⟨_, _, ⟨⟩⟩ | ⟨⟨⟩⟩ | ⟨⟨⟩⟩) -
    exact ⟨_, _, { kind := .separate, ticket := 0, handed := true }, rfl, by decide, by decide, by decide, by decide⟩
  · intro _ h hh
    cases hh
  · unfold State.numberingSound
    decide
  · unfold Media.ordered
    decide

theorem witness_SwathAndFeedReports :
    (let s := printing { ticket with outstanding := true } (some ⟨.swath 0 1000, false⟩);
     s.engine.op = some ⟨.swath 0 1000, false⟩ ∧ s.ticket 0 = some { ticket with outstanding := true } ∧
     0 ∉ s.desk.admitted ∧ ticket.fed < ticket.l ∧ 1000 ≤ ticket.l - ticket.fed ∧ (0 : Nat) ≤ 1000 ∧ 1000 < 1001 ∧
     s.run.state ≠ .engineWait ∧ s.run.state ≠ .halted ∧ s.roll 0 = some roll ∧ roll.state = .active ∧
     (∀ r' ρ', s.roll r' = some ρ' → ρ'.state = .active → r' = 0)) ∧
    (let s := (printing ticket none).withEngine
       { EngineLink.reset with op := some ⟨.feed 50 (.owed 0), false⟩, owed := some (0, 50) };
     s.engine.op = some ⟨.feed 50 (.owed 0), false⟩ ∧ s.engine.owed = some (0, 50) ∧ 50 ≤ 50 ∧
     s.ticket 0 = some ticket ∧ ticket.fed + 50 ≤ ticket.l ∧ 0 ∉ s.desk.admitted ∧ s.roll ticket.roll = some roll) ∧
    (printing ticket (some ⟨.feed 50 .eject, false⟩)).engine.op = some ⟨.feed 50 .eject, false⟩ := by decide

/-- The ranges a swath is charged in, the order of the stops, and the reports that come after a stop. -/
theorem witness_LateReports :
    (let s := printing { ticket with outstanding := true } (some ⟨.swath 0 1000, false⟩);
     s.chargeable { ticket with outstanding := true } ∧ (∀ e ∈ s.media.stops, s.media.position + 1000 ≤ e.position) ∧
     ∀ y, y ∈ s.desk.admitted → ∀ k', s.ticket y = some k' → k'.state = .admitted) ∧
    (printing ticket (some ⟨.feed 50 (.owed 0), true⟩)).engine.op = some ⟨.feed 50 (.owed 0), true⟩ ∧
    (let k := { ticket with state := .closedSpoiled, outstanding := true, finalCost := some 0 };
     let s := (((inRun .halted).setEdition 2 edition).setTicket 0 k).withEngine
       { EngineLink.reset with op := some ⟨.swath 0 100, true⟩ };
     s.engine.op = some ⟨.swath 0 100, true⟩ ∧ s.ticket 0 = some k ∧ 0 ∉ s.desk.admitted ∧ 0 ∉ s.desk.path ∧
     (∀ p ∈ s.media.placed, p.2.ticket ≠ 0) ∧ s.edition k.edition = some edition ∧ s.chargeable k ∧
     s.run.state = .halted ∧ 100 ≤ 100) := by
  unfold State.chargeable
  decide

/-- The report of a ticket's first swath, with its next request held. -/
theorem witness_FirstSwathPause :
    (let k := { ticket with outstanding := true, swathCount := 0 };
     let s := (printing k none).withEngine
       { EngineLink.reset with op := some ⟨.swath 0 100, false⟩, request := some ⟨0, 127, true⟩ };
     s.ticket 0 = some k ∧ k.state = .printing ∧ k.swathCount = 0 ∧ k.fed + 100 < k.l ∧
     s.engine.request = some ⟨0, 127, true⟩) := by decide

theorem witness_HeadCare :
    (let s := (fed tank .empty).withRun { RunRecord.reset with
       state := .waking, wake := some (.heavy, .purge), needsPurge := put RunRecord.reset.needsPurge 0 (some .light),
       manual := some (0xFFF, .light) };
     s.run.wake = some (.heavy, .purge) ∧ (s.channel 0).feed = .fed .a ∧ 0 < (s.run.volumesAt .heavy)[(0 : ChannelId)] ∧
     s.run.needsPurge[(0 : ChannelId)] = some .light ∧ 0 < (s.run.volumesAt .light)[(0 : ChannelId)] ∧
     s.run.manual = some (0xFFF, .light) ∧ (0xFFF : ChannelSet).getLsbD (0 : ChannelId).val = true) ∧
    ({ RunRecord.reset with lightVolumes := Vector.replicate 12 0 }.volumesAt .light)[(0 : ChannelId)] = 0 ∧
    (printing ticket (some ⟨.park, true⟩)).engine.op = some ⟨.park, true⟩ ∧
    (let s := ((inRun .waking).withRun { (inRun .waking).run with
       wake := some (.heavy, .purge), slot := some ⟨.purge .wake, true⟩ }).withEngine
         { EngineLink.reset with op := some ⟨.purge 1 (Vector.replicate 12 0), false⟩ };
     s.engine.op = some ⟨.purge 1 (Vector.replicate 12 0), false⟩ ∧ s.run.slot = some ⟨.purge .wake, true⟩) := by decide

/-- An operation wanted in each place of the order, with a free and with a busy engine. -/
theorem witness_Wanted :
    ((inRun .waking).withRun { (inRun .waking).run with wake := some (.heavy, .uncap) }).wants .uncap ∧
    ((inRun .waking).withRun { (inRun .waking).run with wake := some (.heavy, .purge) }).wants (.purge .wake) ∧
    ((inRun .doze).withRun { (inRun .doze).run with wanted := some .park }).wants .park ∧
    ((inRun .capped).withRun { (inRun .capped).run with wanted := some .cap }).wants .cap ∧
    ((fed tank .empty).withRun { (inRun .idle).run with
      needsPurge := put RunRecord.reset.needsPurge 0 (some .light) }).wants (.purge (.single 0)) ∧
    ((inRun .idle).withRun { (inRun .idle).run with manual := some (1, .light) }).wants (.purge .manual) ∧
    (inRun .waking).engine.op = none ∧ (inRun .waking).run.slot = none ∧
    (printing ticket (some ⟨.swath 0 100, false⟩)).engine.op ≠ none := by
  refine ⟨⟨rfl, _, rfl⟩, ⟨rfl, _, rfl⟩, ⟨.inl rfl, rfl⟩, ⟨.inr rfl, rfl⟩, ⟨.inl rfl, ⟨⟨.a, rfl⟩, by decide⟩, ?_⟩,
    ⟨.inl rfl, by decide, ?_⟩, by decide, by decide, by decide⟩
  · intro b h
    exact absurd h (Nat.not_lt_zero _)
  · rintro c ⟨-, h⟩
    revert h
    revert c
    decide

theorem witness_StopNow : (inRun .idle).run.state ≠ .engineWait ∧ (inRun .halted).run.state ≠ .engineWait ∧
    ((printing ticket none).desk.admitted ++ (printing ticket none).desk.path).Nodup := by decide

theorem witness_StopCauses :
    State.reset.takesAtOnce .stopNow ∧ State.reset.run.state = .engineWait ∧ State.reset.engine.swathTimer = none ∧
    (let s := (printing ticket none).withEngine
       { EngineLink.reset with op := some ⟨.swath 0 1, true⟩, swathTimer := some 0 };
     s.engine.swathTimer = some 0 ∧ s.engine.op = some ⟨.swath 0 1, true⟩) ∧
    (inRun .idle).run.state ≠ .engineWait ∧ (inRun .idle).run.state ≠ .halted ∧ 7 < 8 ∧ 0 < 1 ∧ 127 < 128 :=
  ⟨takes _ _ rfl (by decide), by decide⟩

/-- With nothing outstanding no report matches. -/
theorem witness_ProtocolErrors (s : State) (h : s.engine.op = none) :
    (∀ x a ab, s.engine.op = some ⟨.swath x a, ab⟩ → x.val ≠ 0) ∧ (∀ n p ab, s.engine.op ≠ some ⟨.feed n p, ab⟩) ∧
    (∀ set w ab, s.engine.op ≠ some ⟨.purge set w, ab⟩) ∧ (∀ ab, s.engine.op ≠ some ⟨.park, ab⟩) ∧
    (∀ ab, s.engine.op ≠ some ⟨.cap, ab⟩) ∧ (∀ ab, s.engine.op ≠ some ⟨.uncap, ab⟩) := by
  simp [h]

theorem witness_CutterLines :
    (cutting .idle 5).cutter.state = .idle ∧ (cutting (.jammed cut) 5).cutter.state = .jammed cut ∧
    (cutting (.cutting .homeEnd 1 cut) 5).cutter.state = .cutting .homeEnd 1 cut ∧
    (let s := cutting (.cutting .farEnd 1 cut) 0;
     s.cutter.state = .cutting .farEnd 1 cut ∧ cut.ignored = false ∧ cut.kind = .separate ∧
       s.ticket cut.ticket = some ticket ∧ ticket.state.unclosed = true) ∧
    ({ cut with ignored := true } : HeldCut).ignored = true := by decide

theorem witness_NoTraverse : ∀ e n h, (cutting .idle 5).cutter.state ≠ .cutting e n h := nofun

/-- A traverse toward HOME, and the actions of a lead trim and of a trail cut, in the stop list where P stands. -/
theorem witness_CutterCompletes :
    (let a : StopAction := { kind := .leadTrim 30, ticket := 0, handed := true };
     let h : HeldCut := { kind := .leadTrim, ticket := 0, ignored := false };
     let s := (cutting (.cutting .homeEnd 1 h) 4).withMedia { Media.reset with
       rolls := #v[some roll, none], stops := [{ position := 0, actions := [a] }] };
     s.cutter.state = .cutting .homeEnd 1 h ∧ (0, a) ∈ s.media.placed ∧
     (∀ b ∈ s.media.placed, b = (0, a)) ∧ s.roll 0 = some roll ∧ roll.state = .active ∧
     (∀ r' ρ', s.roll r' = some ρ' → ρ'.state = .active → r' = 0)) ∧
    (let a : StopAction := { kind := .trailCut, ticket := 0, handed := true };
     let h : HeldCut := { kind := .trailCut, ticket := 0, ignored := false };
     let s := (printing { ticket with state := .travelling, fed := 1200 } none).withMedia { Media.reset with
       rolls := #v[some roll, none], position := 1950, stops := [{ position := 1950, actions := [a] }] };
     let s := s.withCutter { Cutter.reset with state := .cutting .farEnd 1 h, life := 0 };
     s.cutter.state = .cutting .farEnd 1 h ∧ (1950, a) ∈ s.media.placed ∧ 0 ∉ s.desk.admitted ∧
     s.ticket 0 = some { ticket with state := .travelling, fed := 1200 }) := by decide

/-- The first stop is at hand: an eject feed and a swath that reach it. -/
theorem witness_StopReached :
    (let e : StopEntry := { position := 1850, actions := [{ kind := .separate, ticket := 0, handed := false }] };
     let es : List StopEntry := [{ position := 1950, actions := [{ kind := .trailCut, ticket := 0, handed := false }] }];
     let s := ((printing ticket none).withMedia { (printing ticket none).media with position := 1800 }).withCutter
       { Cutter.reset with state := .idle, life := 4 };
     s.media.stops = e :: es ∧ e.position = s.media.position + 50 ∧ (∀ a ∈ e.actions, a.handed = false) ∧
     (∀ y k, s.ticket y = some k → k.state = .printing ∨ k.state = .cancelling → k.fed ≠ 0) ∧ 50 ≤ 127 ∧
     (e.actions.filter fun b => !(b.kind == .patchRead)) = [{ kind := .separate, ticket := 0, handed := false }] ∧
     s.cutter.state = .idle ∧ s.ticket 0 = some ticket ∧ ticket.fed + 50 < ticket.l) ∧
    ((printing ticket (some ⟨.feed 50 .eject, false⟩)).engine.op = some ⟨.feed 50 .eject, false⟩ ∧
      (printing ticket (some ⟨.swath 0 127, false⟩)).engine.op = some ⟨.swath 0 127, false⟩ ∧
      (cutting (.worn none) 0).cutter.state = .worn none) := by decide

theorem witness_JamsAndBlades :
    (cutting (.jammed cut) 0).takesAtOnce .cutterClearMade ∧ (cutting (.jammed cut) 0).takesAtOnce .cutterClearRetry ∧
    (cutting (.worn (some cut)) 0).takesAtOnce (.bladeFit 100000) ∧
    (cutting .idle 5).takesAtOnce (.bladeFit 100001) ∧
    ((cutting (.jammed cut) 0).cutter.state = .jammed cut ∧ cut.ignored = false ∧ cut.kind = .separate ∧
      (cutting (.jammed cut) 0).ticket cut.ticket = some ticket ∧ 0 < (cutting (.jammed cut) 1).cutter.life ∧
      (cutting (.worn (some cut)) 0).cutter.state = .worn (some cut)) :=
  ⟨takes _ _ rfl (by decide), takes _ _ rfl (by decide), takes _ _ rfl (by decide), takes _ _ rfl (by decide), by decide⟩

/-- A jam over a lead trim and over a trail cut that the stop list still holds. -/
theorem witness_JamsCompleted :
    (let a : StopAction := { kind := .leadTrim 30, ticket := 0, handed := true };
     let h : HeldCut := { kind := .leadTrim, ticket := 0, ignored := false };
     let s := (cutting (.jammed h) 4).withMedia { Media.reset with
       rolls := #v[some roll, none], stops := [{ position := 0, actions := [a] }] };
     s.takesAtOnce .cutterClearMade ∧ s.cutter.state = .jammed h ∧ (0, a) ∈ s.media.placed ∧
     (∀ b ∈ s.media.placed, b = (0, a)) ∧ s.roll 0 = some roll ∧
     (∀ r' ρ', s.roll r' = some ρ' → ρ'.state = .active → r' = 0)) ∧
    (let a : StopAction := { kind := .trailCut, ticket := 0, handed := true };
     let h : HeldCut := { kind := .trailCut, ticket := 0, ignored := false };
     let s := (cutting (.jammed h) 4).withMedia { Media.reset with stops := [{ position := 0, actions := [a] }] };
     s.takesAtOnce .cutterClearMade ∧ s.cutter.state = .jammed h ∧ s.ticket 0 = some ticket ∧
     0 ∉ s.desk.admitted ∧ (0, a) ∈ s.media.placed) :=
  ⟨⟨takes _ _ rfl (by decide), by decide⟩, ⟨takes _ _ rfl (by decide), by decide⟩⟩

theorem witness_Refsets :
    State.reset.takesAtOnce (.refsetLoad 15 24 (List.replicate 24 ⟨0, 0, 0⟩)) ∧ (State.reset.refset 15).useCount = 0 ∧
    State.reset.takesAtOnce (.refsetLoad 15 25 []) ∧ 24 < 25 ∧
    0 < ((State.reset.setRefset 3 { targets := [⟨0, 0, 0⟩], useCount := 1 }).refset 3).useCount ∧
    State.reset.takesAtOnce (.refsetClear 15) ∧ State.reset.takesAtOnce .sensorReset ∧
    State.reset.colour.sensor ≠ .calibrating ∧ State.reset.colour.sensor ≠ .measuring ∧ State.reset.colour.held = none ∧
    (sensing .measuring (some read)).colour.sensor = .measuring :=
  ⟨takes _ _ rfl (by decide), by decide, takes _ _ rfl (by decide), by decide, by decide, takes _ _ rfl (by decide),
    takes _ _ rfl (by decide), by decide⟩

theorem witness_RefsetSlot : State.reset.takesAtOnce (.refsetLoad 16 1 [⟨0, 0, 0⟩]) ∧
    State.reset.takesAtOnce (.refsetClear 16) ∧ 15 < 16 :=
  ⟨takes _ _ rfl (by decide), takes _ _ rfl (by decide), by decide⟩

theorem witness_Calibration : State.reset.colour.settle ≠ none ∧
    (let s := sensing .calibrating (some read);
     s.colour.settle = none ∧ s.colour.sensor = .calibrating ∧ s.colour.exchange = 0 ∧ s.colour.held = some read ∧
       read.discard = false ∧ s.colour.timer ≠ none ∧ s.ticket read.ticket = some { ticket with refset := some 3, patches := 1 }) ∧
    (sensing .calibrating none).colour.held = none ∧
    (sensing .calibrating (some { read with discard := true })).colour.held = some { read with discard := true } := by
  decide

/-- A patch read that is handed, with its set as it was, changed, and emptied. -/
theorem witness_ReadHanded :
    (let k := { ticket with refset := some 3, patches := 1 };
     let s := withTarget (sensing .idle none);
     s.ticket 0 = some k ∧ k.refset = some 3 ∧ (s.refset 3).targets ≠ [] ∧ (s.refset 3).targets.length = k.patches ∧
     s.colour.settle = none ∧ s.colour.sensor = .idle ∧ s.colour.calCount < 50) ∧
    ((sensing .idle none).refset 3).targets = [] ∧ (withTarget (sensing .failed none)).colour.sensor = .failed ∧
    (withTarget (sensing .uncalibrated none)).colour.sensor = .uncalibrated ∧
    (withTarget State.reset).colour.settle ≠ none := by decide

theorem witness_Measurement :
    (let s := sensing .measuring (some read);
     s.colour.settle = none ∧ s.colour.sensor = .measuring ∧ s.colour.held = some read ∧
     s.ticket read.ticket = some { ticket with refset := some 3, patches := 1 } ∧ read.discard = false ∧
     read.retry = false ∧ ([⟨0, 0, 0⟩] : List Lab).length = read.patches ∧ ([] : List Lab).length ≠ read.patches ∧
     s.colour.timer ≠ none) ∧
    ({ read with retry := true } : HeldRead).retry = true ∧ ({ read with discard := true } : HeldRead).discard = true := by
  decide

theorem witness_ColourDifference : 4294967295 < 2 ^ 32 ∧
    (⟨10000, 12799, -12800⟩ : Lab) = clampLab ⟨10000, 12799, -12800⟩ ∧ ([0] : List Nat) ≠ [] := by decide

theorem witness_IdleTimers : State.reset.run.dozeTimer = none ∧
    (let s := (fed { tank with fill := 5 } .empty).withRun { RunRecord.reset with
       state := .paused, dozeTimer := some 0, capTimer := some 0 };
     s.run.dozeTimer ≠ none ∧ s.run.capTimer ≠ none ∧ s.tank 0 = .held .feeding { tank with fill := 5 } ∧
       (5 : Nat) ≠ tank.lastWritten) := by decide

theorem witness_RunRequests :
    (inRun .idle).takesAtOnce (.purge 4095 1) ∧ (4095 : BitVec 16) ≠ 0 ∧ (4095 : BitVec 16).toNat < 4096 ∧
    (inRun .idle).run.state = .idle ∧ (inRun .idle).run.manual = none ∧ (inRun .idle).run.slot = none ∧
    State.reset.run.state ≠ .idle ∧ (some (1, .light) : Option (ChannelSet × Level)) ≠ none ∧
    (inRun .running).takesAtOnce .stopDrain ∧ (inRun .waking).run.state = .waking ∧
    (printing { ticket with state := .travelling, fed := 1200 } none).run.state = .running ∧
    (inRun .halted).takesAtOnce (.resume true) ∧ (inRun .halted).run.state = .halted ∧
    (inRun .paused).run.state = .paused ∧
    (let s := (inRun .capped).withRun { (inRun .capped).run with resumeWait := true };
     s.run.state = .capped ∧ s.run.resumeWait = true) :=
  ⟨takes _ _ rfl (by decide), by decide, by decide, by decide, by decide, by decide, by decide, by decide,
    takes _ _ rfl (by decide), by decide, by decide, takes _ _ rfl (by decide), by decide⟩

theorem witness_PurgeRange : (inRun .idle).takesAtOnce (.purge 0 0) ∧ (0 : BitVec 16) = 0 ∧
    4096 ≤ (4096 : BitVec 16).toNat ∧ 2 ≤ 2 := ⟨takes _ _ rfl (by decide), by decide⟩

theorem witness_LinkBuffers : (linked { Link.reset with reply := [0] }).link.sound := by
  refine ⟨by decide, by decide, by decide, by decide, nofun, nofun⟩

theorem witness_Records : ((fed tank .empty).withCosting { Costing.reset with cutFee := 1000000 }).costing.sound ∧
    (fed tank .empty).supply.sound ∧ (withTarget State.reset).colour.sound := by
  refine ⟨?_, ⟨?_, by decide⟩, ?_⟩
  · unfold Costing.sound
    decide
  · have key : ∀ x : TankId, (match (fed tank .empty).supply.tanks[x] with
        | .held _ r => decide (r.fill ≤ mlToNl r.capacity)
        | _ => true) = true := by decide
    intro x st r h
    have hx := key x
    rw [h] at hx
    exact of_decide_eq_true hx
  · unfold Colour.sound
    decide

theorem witness_StopsOrdered : (printing ticket none).media.ordered := by
  unfold Media.ordered
  decide

theorem witness_UseCounts : (((inRun .idle).setEdition 2 { edition with refset := some 3 }).setRefset 3
    { targets := [⟨0, 0, 0⟩], useCount := 1 }).useCountsRight := by
  refine ⟨by decide, ?_⟩
  intro i e r h hr
  have key : ∀ i e, (((inRun .idle).setEdition 2 { edition with refset := some 3 }).setRefset 3
    { targets := [⟨0, 0, 0⟩], useCount := 1 }).edition i = some e → e.refset = some 3 := by decide
  have h3 := key i e h
  rw [hr] at h3
  cases h3
  decide

theorem witness_OneSlotFeeds : (fed tank .empty).supply.oneFeeding ∧ (fed tank .empty).readsAtReadingSlots := by
  refine ⟨?_, ?_, ?_⟩
  · intro c
    by_cases h : c = 0
    · subst h
      exact ⟨⟨tank, rfl, rfl⟩, nofun⟩
    · have hf : ∀ c : ChannelId, c ≠ 0 → (fed tank .empty).supply.channels[c].feed = .starved ∧
          ∀ y, (fed tank .empty).supply.tanks[tankOf c y] = .empty := by
        intro c hc
        refine ⟨by revert c; decide, fun y => ?_⟩
        cases y <;> (revert c; decide)
      rw [(hf c h).1]
      intro y r hr
      rw [(hf c h).2 y] at hr
      cases hr
  · intro x h
    have : (fed tank .empty).tags.waiting[x] = none := by revert x; decide
    rw [this] at h
    cases h
  · intro tx h
    rcases h with h | ⟨n, h⟩ <;> cases h

end Sys2Proof.Tests
end

section
/-! PROOF. Admission and tickets: the layer that the family's proofs share. -/

namespace Sys2Proof.Machine

open Sys2Proof

/-! ## Agreement of states, block by block -/

/-- Agreement but for a list of blocks, one clause a block. -/
theorem sameBut_iff (s : State) (bs : List Block) (t : State) :
    s.sameBut bs t ↔ t.pending = s.pending ∧
      (.editions ∉ bs → t.editions = s.editions) ∧ (.desk ∉ bs → t.desk = s.desk) ∧
      (.costing ∉ bs → t.costing = s.costing) ∧ (.supply ∉ bs → t.supply = s.supply) ∧
      (.tags ∉ bs → t.tags = s.tags) ∧ (.media ∉ bs → t.media = s.media) ∧
      (.engine ∉ bs → t.engine = s.engine) ∧ (.cutter ∉ bs → t.cutter = s.cutter) ∧
      (.colour ∉ bs → t.colour = s.colour) ∧ (.run ∉ bs → t.run = s.run) ∧
      (.link ∉ bs → t.link = s.link) ∧ (.notices ∉ bs → t.notices = s.notices) ∧
      (.date ∉ bs → t.date = s.date) := by
  refine and_congr_right fun _ => ⟨fun h => ?_, ?_⟩
  · exact ⟨h .editions, h .desk, h .costing, h .supply, h .tags, h .media, h .engine, h .cutter, h .colour,
      h .run, h .link, h .notices, h .date⟩
  · rintro ⟨h1, h2, h3, h4, h5, h6, h7, h8, h9, h10, h11, h12, h13⟩ b
    cases b <;> assumption

theorem sameBut_trans {s t u : State} {bs cs : List Block} (h : s.sameBut bs t) (h' : t.sameBut cs u) :
    s.sameBut (bs ++ cs) u := by
  refine ⟨h'.1.trans h.1, fun b hb => ?_⟩
  obtain ⟨h1, h2⟩ := not_or.mp (mt List.mem_append.mpr hb)
  have h3 := h.2 b h1
  have h4 := h'.2 b h2
  cases b <;> exact Eq.trans h4 h3

theorem sameBut_weaken {s t : State} {bs cs : List Block} (h : s.sameBut bs t) (hsub : bs ⊆ cs) : s.sameBut cs t :=
  ⟨h.1, fun b hb => h.2 b fun hm => hb (hsub hm)⟩

/-! ## Requests executed in the event of their arrival -/

/-- A command that is the arrival of a request's frame delivers that request. -/
theorem exec_request {c : Instr} {tag : Nat} {r : Request} (h : requestOf c = some (tag, r)) (s : State) :
    exec c s = .next (deliver tag r s) := by
  cases c <;> cases h <;> rfl

/-- What a request that is executed at once leaves, from what its block answers. -/
theorem exec_answers {c : Instr} {tag : Nat} {r : Request} {s u : State} {st : Status} {body : ReplyBody}
    (hc : requestOf c = some (tag, r)) (h : s.takesAtOnce r) (hh : handle r s.asked = (u, ⟨st, body⟩)) :
    ∃ t, exec c s = .next t ∧ u.answers t tag st body :=
  ⟨_, exec_request hc s, deliver_answers_of tag r s u st body h hh⟩

/-- An index within its table. -/
theorem asId_val {n : Nat} (i : Fin n) : asId n i.val = some i := by
  simp [asId]

/-- An index outside its table. -/
theorem asId_out {n i : Nat} (h : n ≤ i) : asId n i = none := by
  simp [asId, Nat.not_lt.mpr h]

/-! ## Settings -/

theorem clamp_eq (lo hi x : Nat) : clamp lo hi x = max lo (min x hi) := by
  rw [clamp, Nat.min_comm]

/-- A limit whose 0 is kept, in cases. -/
theorem clampOrZero_eq {lo hi : Nat} (h : lo ≤ hi) (x : Nat) :
    clampOrZero lo hi x = if x = 0 then 0 else if x < lo then lo else if hi < x then hi else x := by
  unfold clampOrZero clamp
  split_ifs <;> omega

theorem handle_dropVolumesSet (c : ChannelId) (a b d : Nat) (s : State) :
    handle (.dropVolumesSet c.val a b d) s =
      (s.withCosting { s.costing with
          volumes := put s.costing.volumes c ⟨clamp 1 400 a, clamp 1 400 b, clamp 1 400 d⟩ },
        ⟨.ok, .dropVolumes ⟨clamp 1 400 a, clamp 1 400 b, clamp 1 400 d⟩⟩) := by
  simp [handle, reqDropVolumesSet, asId_val, accept]

theorem handle_purgeVolumesSet (level : Nat) (v : Vector Nat 12) (s : State) :
    handle (.purgeVolumesSet level v) s =
      match level with
      | 0 => (s.withRun { s.run with lightVolumes := Vector.ofFn fun c : Fin 12 => min 2000000 v[c] },
          ⟨.ok, .purgeVolumes (Vector.ofFn fun c : Fin 12 => min 2000000 v[c])⟩)
      | 1 => (s.withRun { s.run with heavyVolumes := Vector.ofFn fun c : Fin 12 => min 2000000 v[c] },
          ⟨.ok, .purgeVolumes (Vector.ofFn fun c : Fin 12 => min 2000000 v[c])⟩)
      | _ => (s, ⟨.range, .empty⟩) := by
  match level with
  | 0 => rfl
  | 1 => rfl
  | _ + 2 => rfl

/-- Settles O13: each setting's block answers with what it stored. -/
theorem settingsAreClampedAndStored : Obligations.SettingsAreClampedAndStored := by
  refine ⟨fun tag n small medium large s h => ⟨?_, fun hn => ?_⟩, fun tag s => ⟨fun n h => ?_, ?_⟩, ?_⟩
  · rintro c rfl
    obtain ⟨t, he, ha⟩ := exec_answers (c := .dropVolumesSet tag _ _ _ _) rfl h (handle_dropVolumesSet c _ _ _ _)
    exact ⟨t, he, _, rfl, by simpa only [clamp_eq, asked_keeps] using ha⟩
  · exact exec_answers rfl h (by simp [handle, reqDropVolumesSet, asId_out hn, refuse])
  · exact exec_answers rfl h (by simp [handle, reqPauseLimitSet, accept, Nat.min_comm])
  · intro doze cap sources h
    obtain ⟨t, he, ha⟩ := exec_answers (c := .idleTimersSet tag _ _ _) rfl h rfl
    exact ⟨t, he, _, _, clampOrZero_eq (by omega) doze, clampOrZero_eq (by omega) cap, ha⟩
  · intro tag level v s h
    have hh := handle_purgeVolumesSet level v s.asked
    refine ⟨deliver tag (.purgeVolumesSet level v) s, Vector.ofFn fun c : Fin 12 => min 2000000 v[c],
      exec_request rfl s, fun c => by simp [Nat.min_comm], ?_, ?_, fun hl => ?_⟩
    · rintro rfl; exact deliver_answers_of _ _ _ _ _ _ h hh
    · rintro rfl; exact deliver_answers_of _ _ _ _ _ _ h hh
    · obtain ⟨m, rfl⟩ := Nat.exists_eq_add_of_le' hl
      exact deliver_answers_of _ _ _ _ _ _ h hh

end Sys2Proof.Machine
end

section
/-! PROOF. The start of a ticket and the admission event (R25 to R27, R114, R117). -/

namespace Sys2Proof.Machine

open Sys2Proof

/-! ## The stop list -/

/-- The actions of a list of entries, each with its position: `Media.placed` of a stop list. -/
def placedOf (es : List StopEntry) : List (Nat × StopAction) :=
  es.flatMap fun e => e.actions.map fun a => (e.position, a)

theorem placed_eq (m : Media) : m.placed = placedOf m.stops := rfl

@[simp] theorem placedOf_nil : placedOf [] = [] := rfl

@[simp] theorem placedOf_cons (e : StopEntry) (es : List StopEntry) :
    placedOf (e :: es) = (e.actions.map fun a => (e.position, a)) ++ placedOf es := rfl

/-- R117: an action entered is one action more, at its position. -/
theorem placedOf_enterStop (pos : Nat) (a : StopAction) (es : List StopEntry) :
    (placedOf (enterStop pos a es)).Perm (placedOf es ++ [(pos, a)]) := by
  induction es with
  | nil => exact .refl _
  | cons e es ih =>
    unfold enterStop
    split_ifs with h1 h2
    · subst h1
      simpa using (List.perm_append_comm (l₁ := [(e.position, a)]) (l₂ := placedOf es)).append_left _
    · exact List.perm_append_comm (l₁ := [(pos, a)]) (l₂ := placedOf (e :: es))
    · simpa using ih.append_left _

theorem placedOf_enterAll (acts : List (Nat × StopAction)) (es : List StopEntry) :
    (placedOf (acts.foldl (fun es a => enterStop a.1 a.2 es) es)).Perm (placedOf es ++ acts) := by
  induction acts generalizing es with
  | nil => simp
  | cons a acts ih =>
    simpa using (ih (enterStop a.1 a.2 es)).trans ((placedOf_enterStop a.1 a.2 es).append_right acts)

/-! ## Starting -/

/-- R114: what the placement of a ticket does. -/
theorem placeTicket_eq (s : State) (t : TicketId) (oldEnd : Int) (k : Ticket) (h : s.ticket t = some k) :
    s.placeTicket t oldEnd =
      (s.setTicket t { k with start := some s.media.position, oldEnd := oldEnd }).withMedia { s.media with
        pathEnd := (s.media.position : Int) + k.l,
        stops := (k.stopActions t s.media.position oldEnd (k.lp == 20 && k.state == .printing)).foldl
          (fun es a => enterStop a.1 a.2 es) s.media.stops } := by
  simp [State.placeTicket, h]

/-- A ticket as its start leaves it (R27, R114). -/
def Ticket.startedAt (k : Ticket) (m : Media) : Ticket :=
  { k with state := .printing, start := some m.position, oldEnd := m.pathEnd }

/-- The desk once a ticket has started (R27). -/
def Desk.start (d : Desk) (t : TicketId) (k : Ticket) : Desk :=
  { d with admitted := d.admitted.erase t, path := d.path ++ [t], tickets := put d.tickets t (some k) }

/-- The media path once a ticket has started (R114). -/
def Media.start (m : Media) (t : TicketId) (k : Ticket) : Media :=
  { m with pathEnd := (m.position : Int) + k.l,
           stops := (k.stopActions t m.position m.pathEnd (k.lp == 20)).foldl
             (fun es a => enterStop a.1 a.2 es) m.stops }

theorem put_put {α : Type} {n : Nat} (v : Vector α n) (i : Fin n) (x y : α) : put (put v i x) i y = put v i y := by
  ext j hj
  simp only [put, Vector.getElem_set]
  split_ifs <;> rfl

@[simp] theorem modTicket_some {s : State} {t : TicketId} {k : Ticket} (h : s.ticket t = some k)
    (f : Ticket → Ticket) : s.modTicket t f = s.setTicket t (f k) := by
  simp [State.modTicket, h]

@[simp] theorem modTicket_none {s : State} {t : TicketId} (h : s.ticket t = none)
    (f : Ticket → Ticket) : s.modTicket t f = s := by
  simp [State.modTicket, h]

/-- R27: what a start does. -/
theorem startTicket_eq (s : State) (t : TicketId) (k : Ticket) (h : s.ticket t = some k) :
    s.startTicket t =
      ((s.withDesk (s.desk.start t (k.startedAt s.media))).withMedia (s.media.start t k)).emit
        (.engine (.ticketStart t k.lm k.li k.lp k.lt k.patches)) := by
  have h1 : (s.withDesk { s.desk with admitted := s.desk.admitted.erase t, path := s.desk.path ++ [t] }).ticket t =
      some k := h
  have h2 := placeTicket_eq ((s.withDesk { s.desk with
    admitted := s.desk.admitted.erase t, path := s.desk.path ++ [t] }).setTicket t { k with state := .printing }) t
    s.media.pathEnd { k with state := .printing } (setTicket_ticket_self _ _ _)
  simp only [State.startTicket, modTicket_some h1, setTicket_keeps, withDesk_media, h2, withMedia_ticket,
    setTicket_ticket_self]
  simp [State.setTicket, State.withDesk, State.withMedia, Desk.start, Media.start, Ticket.startedAt, put_put,
    Ticket.stopActions]

theorem startTicket_none (s : State) (t : TicketId) (h : s.ticket t = none) :
    s.startTicket t = s.withDesk { s.desk with admitted := s.desk.admitted.erase t, path := s.desk.path ++ [t] } := by
  have h' : (s.withDesk { s.desk with admitted := s.desk.admitted.erase t, path := s.desk.path ++ [t] }).ticket t =
    none := h
  simp [State.startTicket, State.placeTicket, h']

/-- R26, R121: every ticket of the path that is not FREE has fed its L. -/
theorem pathFed_iff (s : State) :
    s.pathFed = true ↔ ∀ y k, y ∈ s.desk.path → s.ticket y = some k → k.fed = k.l := by
  simp only [State.pathFed, List.all_eq_true]
  refine forall_congr' fun y => ?_
  cases s.ticket y <;> simp

/-- R26: the start test passes: the head of the admitted queue starts. -/
theorem startTest_starts (s : State) {x : TicketId} {xs : List TicketId} (ha : s.desk.admitted = x :: xs)
    (hr : s.run.state = .running) (hl : s.desk.path.length < 6) (hp : s.pathFed = true) :
    s.startTest = s.startTicket x := by
  simp [State.startTest, ha, hr, hl, hp]

/-- R26: the start test fails, and changes nothing. -/
theorem startTest_fails (s : State) (h : s.run.state ≠ .running ∨ 6 ≤ s.desk.path.length ∨ s.pathFed = false) :
    s.startTest = s := by
  unfold State.startTest
  split
  · rfl
  · refine if_neg fun hc => ?_
    simp only [Bool.and_eq_true, decide_eq_true_eq] at hc
    obtain ⟨⟨hr, hl⟩, hp⟩ := hc
    rcases h with h | h | h
    · exact h hr
    · omega
    · simp [hp] at h

/-- Settles O26. -/
theorem startPlacesTheHeadOfTheQueue : Obligations.StartPlacesTheHeadOfTheQueue := by
  intro x xs k s ha hx hk
  refine ⟨fun hr hl hf => ?_, fun h => startTest_fails s ?_⟩
  · have hst := startTest_starts s ha hr hl ((pathFed_iff s).mpr hf)
    rw [startTicket_eq s x k hk] at hst
    rw [hst]
    refine ⟨by simp [Desk.start, ha], by simp [Desk.start], by simp [State.ticket, Desk.start, Ticket.startedAt],
      fun y hy => ?_, by simp [Media.start], by simp [Media.start], ?_, by simp [State.emit], ?_⟩
    · simpa [State.ticket, Desk.start] using put_ne _ _ hy.symm
    · simpa [placed_eq, Media.start, Ticket.stopActions] using
        placedOf_enterAll (k.stopActions x s.media.position s.media.pathEnd (k.lp == 20)) s.media.stops
    · simp [sameBut_iff]
  · rcases h with h | h | ⟨y, k', hy, hk', hne⟩
    · exact .inl h
    · exact .inr (.inl h)
    · refine .inr (.inr (Bool.eq_false_iff.mpr fun hp => hne ((pathFed_iff s).mp hp y k' hy hk')))

/-! ## The admission event -/

/-- A start moves the end of the path and the stop list, and nothing else of the media path. -/
theorem startTest_media (s : State) :
    s.startTest.media = { s.media with pathEnd := s.startTest.media.pathEnd, stops := s.startTest.media.stops } := by
  unfold State.startTest
  split
  · rfl
  · rename_i t _ _
    split
    · cases hk : s.ticket t with
      | some k => rw [startTicket_eq s t k hk]; rfl
      | none => rw [startTicket_none s t hk]; rfl
    · rfl

theorem startTest_eject (s : State) : s.startTest.media.eject = s.media.eject := by
  rw [startTest_media]

/-- The reload moves the two idle timers of the run. -/
theorem reload_run (s : State) (src : ReloadSource) :
    (s.reload src).run = { s.run with
      dozeTimer := (s.reload src).run.dozeTimer, capTimer := (s.reload src).run.capTimer } := by
  unfold State.reload
  split <;> rfl

/-- R177: the wake level and step, in the words of the rule. -/
theorem wakeFrom_eq (r : RunRecord) :
    r.wakeFrom = if r.state = .capped ∧ r.wanted ≠ some .cap ∧ r.slot ≠ some { op := .cap, sent := false }
      then (.heavy, .uncap) else (.light, .purge) := by
  by_cases h : r.state = .capped <;> simp [RunRecord.wakeFrom, RunRecord.capUnsent, h]

/-- R177: what the start of a wake leaves of the run. -/
theorem startWake_run (s : State) :
    s.startWake.run.state = .waking ∧ s.startWake.run.dozeTimer = none ∧ s.startWake.run.capTimer = none ∧
      s.startWake.run.wanted = none ∧ s.startWake.run.wake = some s.run.wakeFrom :=
  ⟨rfl, rfl, rfl, rfl, rfl⟩

/-- The state in which the admission event moves the run: the eject ended, the idle timers reloaded. -/
def State.atAdmission (s : State) : State := (s.withMedia { s.media with eject := false }).reload .byAdmission

/-- The admission event's own effects before the run moves. -/
theorem atAdmission_keeps (s : State) :
    s.atAdmission.media = { s.media with eject := false } ∧ s.atAdmission.desk = s.desk ∧
      s.atAdmission.run.state = s.run.state ∧ s.atAdmission.run.wakeFrom = s.run.wakeFrom := by
  unfold State.atAdmission
  rw [reload_run]
  exact ⟨by simp, by simp, rfl, rfl⟩

/-- R25, step 8, by the run state. -/
theorem admissionEvent_eq (s : State) :
    s.admissionEvent = match s.run.state with
      | .idle => s.atAdmission.enterRunning
      | .doze | .capped => s.atAdmission.startWake
      | _ => s.atAdmission.startTest := by
  rw [← (atAdmission_keeps s).2.2.1]
  rfl

/-- Settles O25, by the run state that the admission finds. -/
theorem admissionEventMovesTheRun : Obligations.AdmissionEventMovesTheRun := by
  intro s
  obtain ⟨hm, hd, hr, hw⟩ := atAdmission_keeps s
  refine ⟨?_, by simp [sameBut_iff], fun h => ?_, fun h => ?_, fun h1 h2 h3 => ?_⟩
  · rw [admissionEvent_eq]
    split
    · simp [State.enterRunning, startTest_eject, hm]
    · simp [hm]
    · simp [hm]
    · simp [startTest_eject, hm]
  · rw [admissionEvent_eq, h]
    simp [State.enterRunning, State.enterRun, RunRecord.enter]
  · have he : s.admissionEvent = s.atAdmission.startWake := by
      rw [admissionEvent_eq]; rcases h with h | h <;> rw [h]
    obtain ⟨hs, hdoze, hcap, hwanted, hwake⟩ := startWake_run s.atAdmission
    rw [he]
    exact ⟨hs, hdoze, hcap, hwanted, by rw [hwake, hw, wakeFrom_eq], by simp [hd]⟩
  · rw [admissionEvent_eq]
    split <;> simp_all

end Sys2Proof.Machine
end

section
/-! PROOF. Reset (R186): the seated tanks are read in the order of their slots (R66, R88, R98). -/

namespace Sys2Proof.Machine

open Sys2Proof

/-! ## Seating the tanks -/

/-- A reload moves nothing where both idle timers are stopped. -/
theorem reload_stopped (s : State) (src : ReloadSource) (hd : s.run.dozeTimer = none) (hc : s.run.capTimer = none) :
    s.reload src = s := by
  unfold State.reload
  split
  · rw [hd, hc]
    exact congrArg s.withRun (by cases h : s.run; simp_all)
  · rfl

/-- R67: a tank seated in an EMPTY slot is READING and its READ is queued, where no idle timer runs. -/
theorem seatTank_empty (s : State) (t : TankId) (h : s.tank t = .empty) (hd : s.run.dozeTimer = none)
    (hc : s.run.capTimer = none) : s.seatTank t = (s.setTank t (.reading none)).queueTag t .read := by
  simp only [State.seatTank, h]
  exact reload_stopped _ _ (by simpa using hd) (by simpa using hc)

theorem queueTag_tags (s : State) (t : TankId) (op : TagOp) :
    (s.queueTag t op).tags = { s.tags with
      waiting := put s.tags.waiting t (some (coalesce s.tags.waiting[t] op)) } := rfl

theorem coalesce_read (w : Option TagOp) : coalesce w .read = .read := by
  cases w with
  | none => rfl
  | some op => cases op <;> rfl

/-- The seating of every present tank of a list of slots. -/
def State.seatList (s : State) (ts : List TankId) : State :=
  ts.foldl (fun s t => if s.supply.presence[t] then s.seatTank t else s) s

theorem seatPresent_eq (s : State) : s.seatPresent = s.seatList (List.finRange 24) := rfl

/-- What the seating of a list of EMPTY slots leaves, where no idle timer runs. -/
theorem seatList_eq (ts : List TankId) (s : State) (hn : ts.Nodup) (he : ∀ t ∈ ts, s.tank t = .empty)
    (hd : s.run.dozeTimer = none) (hc : s.run.capTimer = none) :
    (s.seatList ts).run = s.run ∧ (s.seatList ts).supply.presence = s.supply.presence ∧
      (s.seatList ts).supply.channels = s.supply.channels ∧
      (s.seatList ts).tags = { s.tags with waiting := (s.seatList ts).tags.waiting } ∧
      (∀ x : TankId, (s.seatList ts).tank x =
        if x ∈ ts ∧ s.supply.presence[x] = true then .reading none else s.tank x) ∧
      ∀ x : TankId, (s.seatList ts).tags.waiting[x] =
        if x ∈ ts ∧ s.supply.presence[x] = true then some .read else s.tags.waiting[x] := by
  induction ts generalizing s with
  | nil => simp [State.seatList]
  | cons t ts ih =>
    obtain ⟨ht, hn⟩ := List.nodup_cons.mp hn
    by_cases hp : s.supply.presence[t] = true
    · have hs : s.seatList (t :: ts) = ((s.setTank t (.reading none)).queueTag t .read).seatList ts := by
        rw [← seatTank_empty s t (he t (by simp)) hd hc]
        simp [State.seatList, show s.supply.presence[t.val] = true from hp]
      have hq : ∀ x : TankId, ((s.setTank t (.reading none)).queueTag t .read).tank x =
          if t = x then .reading none else s.tank x := fun x => by
        rw [← setTank_tank]; rfl
      obtain ⟨hrun, hpres, hch, htags, htank, hwait⟩ := ih ((s.setTank t (.reading none)).queueTag t .read) hn
        (fun x hx => by rw [hq, if_neg (by rintro rfl; exact ht hx), he x (by simp [hx])])
        (by simpa using hd) (by simpa using hc)
      rw [hs]
      refine ⟨by simpa using hrun, by simpa using hpres, by simpa [State.setTank] using hch,
        by simpa [queueTag_tags] using htags,
        fun x => ?_, fun x => ?_⟩
      · rw [htank, hq]
        by_cases hx : t = x
        · subst hx; simp [hp]
        · simp [hx, Ne.symm hx]
      · rw [hwait, queueTag_tags, coalesce_read]
        by_cases hx : t = x
        · subst hx; simp [hp]
        · simp [hx, Ne.symm hx, put_ne]
    · have hs : s.seatList (t :: ts) = s.seatList ts := by
        simp [State.seatList, show s.supply.presence[t.val] = false by simpa using hp]
      obtain ⟨hrun, hpres, hch, htags, htank, hwait⟩ := ih s hn (fun x hx => he x (by simp [hx])) hd hc
      rw [hs]
      refine ⟨hrun, hpres, hch, htags, fun x => ?_, fun x => ?_⟩
      · rw [htank]
        by_cases hx : x = t
        · subst hx; simp [ht, hp]
        · simp [hx]
      · rw [hwait]
        by_cases hx : x = t
        · subst hx; simp [ht, hp]
        · simp [hx]

/-! ## The first READ on the bus -/

/-- R98: from the last slot the service pointer wraps to slot 0. -/
theorem nextSlot_fromLast (b : TagBus) (h : b.pointer = 23) :
    b.nextSlot = (List.finRange 24).find? fun t => b.waiting[t].isSome := by
  have hm : ((List.finRange 24).map fun k => (⟨(23 + 1 + k.val) % 24, by omega⟩ : TankId)) = List.finRange 24 := by
    decide
  simp only [TagBus.nextSlot, h]
  exact congrArg (List.find? _) hm

theorem find_finRange_first {n : Nat} (p : Fin n → Bool) (x : Fin n) (hx : p x = true)
    (hy : ∀ y, y < x → p y = false) : (List.finRange n).find? p = some x := by
  rw [List.find?_eq_some_iff_getElem]
  refine ⟨hx, x.val, by simp, by simp, fun j hj => ?_⟩
  simp [hy ⟨j, by omega⟩ (by simpa [Fin.lt_def] using hj)]

/-- R98: an idle bus with its pointer at the last slot takes the lowest pending READ. -/
theorem serveTags_firstRead (s : State) (x : TankId) (hp : s.tags.phase = .idle) (h23 : s.tags.pointer = 23)
    (hx : s.tags.waiting[x] = some .read) (hy : ∀ y, y < x → s.tags.waiting[y] = none) :
    s.serveTags = (s.withTags { s.tags with
      phase := .request { slot := x, op := .read, retry := false }, waiting := put s.tags.waiting x none,
      pointer := x }).emit (.tag (readFrame x)) := by
  have hn : s.tags.nextSlot = some x := by
    rw [nextSlot_fromLast _ h23]
    exact find_finRange_first _ x (by simp [hx]) fun y h => by simp [hy y h]
  simp [State.serveTags, hp, hn, show s.tags.waiting[x.val] = some .read from hx, State.tagFrame]

/-- R98: with nothing pending the bus stays as it is. -/
theorem serveTags_nothing (s : State) (hp : s.tags.phase = .idle) (hw : ∀ x : TankId, s.tags.waiting[x] = none) :
    s.serveTags = s := by
  have hn : s.tags.nextSlot = none := by
    simp only [TagBus.nextSlot, List.find?_eq_none]
    exact fun t _ => by rw [hw t]; simp
  simp [State.serveTags, hp, hn]

/-! ## Reset -/

/-- R186: the records at their reset values, before the seated tanks are taken. -/
def State.blank (s : State) : State :=
  { State.reset with
    supply := { Supply.reset with presence := s.supply.presence },
    media := { Media.reset with mediaPresent := s.media.mediaPresent, rollEnd := s.media.rollEnd },
    cutter := { Cutter.reset with
      side := s.cutter.sideAtReset, homeLine := s.cutter.homeLine, endLine := s.cutter.endLine },
    pending := s.pending }

theorem resetPart_eq (s : State) : resetPart s = (s.blank.seatList (List.finRange 24)).serveTags := rfl

theorem blank_tank (s : State) (x : TankId) : s.blank.tank x = .empty := by
  simp [State.blank, State.tank, Supply.reset]

/-- The state in which every seated tank is READING, its READ pending. -/
theorem blank_seated (s : State) :
    (s.blank.seatList (List.finRange 24)).run = RunRecord.reset ∧
      (s.blank.seatList (List.finRange 24)).supply.presence = s.supply.presence ∧
      (s.blank.seatList (List.finRange 24)).supply.channels = Supply.reset.channels ∧
      (s.blank.seatList (List.finRange 24)).tags =
        { TagBus.reset with waiting := (s.blank.seatList (List.finRange 24)).tags.waiting } ∧
      (∀ x : TankId, (s.blank.seatList (List.finRange 24)).tank x =
        if s.supply.presence[x] = true then .reading none else .empty) ∧
      ∀ x : TankId, (s.blank.seatList (List.finRange 24)).tags.waiting[x] =
        if s.supply.presence[x] = true then some .read else none := by
  obtain ⟨hrun, hpres, hch, htags, htank, hwait⟩ := seatList_eq (List.finRange 24) s.blank (List.nodup_finRange 24)
    (fun x _ => blank_tank s x) rfl rfl
  have hw0 : ∀ x : TankId, s.blank.tags.waiting[x] = none := fun x => by
    simp [State.blank, State.reset, TagBus.reset]
  refine ⟨hrun, hpres, hch, htags, fun x => ?_, fun x => ?_⟩
  · rw [htank, blank_tank]
    simp [State.blank]
  · rw [hwait, hw0]
    simp [State.blank]

/-- R66, R98: the bus after reset, by the lowest seated slot. -/
theorem resetPart_tags (s : State) :
    (∀ x : TankId, (resetPart s).tags.images[x] = none) ∧
    (∀ x : TankId, (resetPart s).tags.waiting[x] =
      if s.supply.presence[x] &&
          (List.finRange 24).any (fun y => decide (y < x) && s.supply.presence[y]) then some .read
      else none) ∧
    ((∀ x : TankId, s.supply.presence[x] = false) → (resetPart s).tags.phase = .idle ∧
      (resetPart s).tags.pointer = 23 ∧ (resetPart s).out = []) ∧
    (∀ x : TankId, s.supply.presence[x] = true → (∀ y : TankId, y < x → s.supply.presence[y] = false) →
      (resetPart s).tags.phase = .request { slot := x, op := .read, retry := false } ∧
        (resetPart s).tags.pointer = x ∧ (resetPart s).out = [.tag (readFrame x)]) := by
  obtain ⟨-, -, -, htags, -, hwait⟩ := blank_seated s
  have hout : (s.blank.seatList (List.finRange 24)).out = [] := by
    rw [← seatPresent_eq]; simp [State.blank, State.reset]
  rw [resetPart_eq]
  generalize s.blank.seatList (List.finRange 24) = u at *
  have hphase : u.tags.phase = .idle := by rw [htags]; rfl
  have h23 : u.tags.pointer = 23 := by rw [htags]; rfl
  have himg : ∀ x : TankId, u.tags.images[x] = none := fun x => by rw [htags]; simp [TagBus.reset]
  by_cases hex : ∃ x : TankId, s.supply.presence[x] = true
  · obtain ⟨x, hx, hmin⟩ := WellFounded.has_min (wellFounded_lt (α := TankId)) {x | s.supply.presence[x] = true} hex
    have hlow : ∀ y : TankId, y < x → s.supply.presence[y] = false := fun y hy => by
      simpa using fun h => hmin y h hy
    have hserve := serveTags_firstRead u x hphase h23 (by rw [hwait]; exact if_pos hx)
      (fun y hy => by rw [hwait]; exact if_neg (by rw [hlow y hy]; simp))
    rw [hserve]
    refine ⟨fun y => by simpa using himg y, fun y => ?_, fun h => ?_, fun y hy hl => ?_⟩
    · have hany : (List.finRange 24).any (fun z => decide (z < y) && s.supply.presence[z]) = decide (x < y) := by
        refine Bool.eq_iff_iff.mpr ⟨fun h => ?_, fun h => ?_⟩
        · obtain ⟨z, -, hz⟩ := List.any_eq_true.mp h
          obtain ⟨hzy, hpz⟩ := Bool.and_eq_true_iff.mp hz
          have hxz : x ≤ z := not_lt.mp fun hlt => hmin z hpz hlt
          exact decide_eq_true (lt_of_le_of_lt hxz (of_decide_eq_true hzy))
        · exact List.any_eq_true.mpr ⟨x, List.mem_finRange x, Bool.and_eq_true_iff.mpr ⟨h, hx⟩⟩
      rw [hany]
      have hput : (put u.tags.waiting x none)[y] = if x = y then none else u.tags.waiting[y] := put_get _ _ _ _
      simp only [emit_keeps, withTags_tags, hput, hwait]
      rcases lt_trichotomy x y with h | h | h
      · simp [h, h.ne]
      · subst h; simp
      · rw [hlow y h]; simp [h.ne']
    · exact absurd ((h x).symm.trans hx) Bool.false_ne_true
    · have : y = x := by
        rcases lt_trichotomy y x with h | h | h
        · exact absurd ((hlow y h).symm.trans hy) Bool.false_ne_true
        · exact h
        · exact absurd ((hl x h).symm.trans hx) Bool.false_ne_true
      subst this
      simp [State.emit, hout]
  · have hnone : ∀ x : TankId, s.supply.presence[x] = false := fun x => by simpa using fun h => hex ⟨x, h⟩
    rw [serveTags_nothing u hphase fun x => by rw [hwait, hnone]; simp]
    refine ⟨himg, fun x => by rw [hwait, hnone]; simp, fun _ => ⟨hphase, h23, hout⟩,
      fun x hx => by simp [hnone x] at hx⟩

/-- R186: every record but the tank slots' and the bus's is at its reset value; the lines keep their levels. -/
theorem resetPart_records (s : State) :
    (resetPart s).editions = Vector.replicate 64 none ∧ (resetPart s).desk = Desk.reset ∧
      (resetPart s).costing = Costing.reset ∧ (resetPart s).supply.channels = Vector.replicate 12 Channel.reset ∧
      (resetPart s).supply.presence = s.supply.presence ∧
      (∀ x : TankId, (resetPart s).tank x = if s.supply.presence[x] = true then .reading none else .empty) ∧
      (resetPart s).media = { Media.reset with mediaPresent := s.media.mediaPresent, rollEnd := s.media.rollEnd } ∧
      (resetPart s).engine = EngineLink.reset ∧
      (resetPart s).cutter = { Cutter.reset with
        side := s.cutter.sideAtReset, homeLine := s.cutter.homeLine, endLine := s.cutter.endLine } ∧
      (resetPart s).colour = Colour.reset ∧ (resetPart s).run = RunRecord.reset ∧ (resetPart s).link = Link.reset ∧
      (resetPart s).notices = Notices.reset ∧ (resetPart s).date = 0 ∧ (resetPart s).pending = s.pending := by
  obtain ⟨hrun, hpres, hch, -, htank, -⟩ := blank_seated s
  have hk := seatPresent_keeps s.blank
  rw [seatPresent_eq] at hk
  obtain ⟨hed, hde, hco, hme, hen, hcu, hcl, hli, hno, hda, -, hpe⟩ := hk
  rw [resetPart_eq]
  generalize s.blank.seatList (List.finRange 24) = u at *
  have htank' : ∀ x, u.serveTags.tank x = u.tank x := fun x => by simp [State.tank]
  simp only [serveTags_keeps, htank']
  exact ⟨hed, hde, hco, hch, hpres, htank, hme, hen, hcu, hcl, hrun, hli, hno, hda, hpe⟩

/-- Settles O4: the records by `resetPart_records`, the tag bus by `resetPart_tags`. -/
theorem resetReturnsEveryRecord : Obligations.ResetReturnsEveryRecord := by
  intro s
  obtain ⟨himg, hwait, hnone, hsome⟩ := resetPart_tags s
  obtain ⟨hed, hde, hco, hch, hpres, htank, hme, hen, hcu, hcl, hrun, hli, hno, hda, hpe⟩ := resetPart_records s
  refine ⟨resetPart s, rfl, hpe, ?_⟩
  generalize resetPart s = t at *
  simp only [State.edition, State.ticket, State.channel, State.roll, State.refset, hed, hde, hco, hch, hme, hen, hcu,
    hcl, hrun, hli, hno, hda]
  refine ⟨?_, ?_, rfl, rfl, rfl, rfl, ?_, rfl, rfl, rfl, rfl, ?_, hpres, htank, himg, hwait, hnone, hsome, ?_, trivial,
    trivial, rfl, rfl, rfl, rfl, rfl, rfl, rfl, rfl, ?_, rfl, rfl, rfl, rfl, rfl, rfl, rfl, rfl, rfl, rfl, rfl, rfl,
      rfl, rfl, rfl,
    rfl, rfl, ?_, rfl, rfl, rfl, rfl, rfl, trivial⟩
  all_goals
    intro i
    simp [Desk.reset, Costing.reset, Channel.reset, Media.reset, Colour.reset, RunRecord.reset]

end Sys2Proof.Machine
end

section
/-! PROOF. Cancellation, the pause timer's expiry and the collection of a ticket (R35, R37, R42, R119, R132). -/

namespace Sys2Proof.Machine

open Sys2Proof

/-! ## Withdrawn actions -/

theorem withdrawStops_cons (p : StopAction → Bool) (e : StopEntry) (es : List StopEntry) :
    withdrawStops p (e :: es) =
      if e.actions.filter (fun a => !p a) = [] then withdrawStops p es
      else { e with actions := e.actions.filter fun a => !p a } :: withdrawStops p es := by
  by_cases h : e.actions.filter (fun a => !p a) = []
  · rw [if_pos h]; exact List.filterMap_cons_none (by simp only [h]; rfl)
  · rw [if_neg h]; exact List.filterMap_cons_some (by simp only [List.isEmpty_iff, h, if_false])

/-- R118, R119: the actions that stay are those without the property. -/
theorem placedOf_withdrawStops (p : StopAction → Bool) (es : List StopEntry) :
    placedOf (withdrawStops p es) = (placedOf es).filter fun a => !p a.2 := by
  induction es with
  | nil => rfl
  | cons e es ih =>
    rw [withdrawStops_cons, placedOf_cons, List.filter_append, List.filter_map]
    split_ifs with h
    · rw [ih]
      simp [Function.comp_def, h]
    · rw [placedOf_cons, ih]
      simp [Function.comp_def]

/-- R118: an entry left with no action leaves the list. -/
theorem withdrawStops_nonempty (p : StopAction → Bool) (es : List StopEntry) :
    ∀ e ∈ withdrawStops p es, e.actions ≠ [] := by
  induction es with
  | nil => exact fun e he => absurd he List.not_mem_nil
  | cons e es ih =>
    rw [withdrawStops_cons]
    split_ifs with h
    · exact ih
    · exact List.forall_mem_cons.mpr ⟨h, ih⟩

/-! ## Returned numbers -/

theorem insertAsc_perm (n : Nat) (ns : List Nat) : (insertAsc n ns).Perm (n :: ns) := by
  induction ns with
  | nil => exact .refl _
  | cons m ms ih =>
    unfold insertAsc
    split_ifs
    · exact .refl _
    · exact (ih.cons m).trans (.swap n m ms)

/-- R14: the return list stays ascending. -/
theorem insertAsc_ascending (n : Nat) (ns : List Nat) (h : ns.Pairwise (· ≤ ·)) :
    (insertAsc n ns).Pairwise (· ≤ ·) := by
  induction ns with
  | nil => simp [insertAsc]
  | cons m ms ih =>
    obtain ⟨hm, hms⟩ := List.pairwise_cons.mp h
    unfold insertAsc
    split_ifs with hnm
    · exact List.pairwise_cons.mpr ⟨List.forall_mem_cons.mpr ⟨hnm, fun x hx => hnm.trans (hm x hx)⟩, h⟩
    · refine List.pairwise_cons.mpr ⟨fun x hx => ?_, ih hms⟩
      rcases List.mem_cons.mp ((insertAsc_perm n ms).mem_iff.mp hx) with rfl | hx
      · omega
      · exact hm x hx

/-! ## The event that no ticket is unclosed -/

theorem noneUnclosed_of_desk {s u : State} (h : u.desk = s.desk) : u.noneUnclosed = s.noneUnclosed := by
  simp [State.noneUnclosed, State.ticket, h]

/-- R173: the run moves as `State.mayGoIdle` says. -/
theorem noTicketUnclosed_mayGoIdle {v s : State} (hv : v.run = s.run) : s.mayGoIdle v.noTicketUnclosed := by
  unfold State.mayGoIdle
  rw [noneUnclosed_of_desk (by simp : v.noTicketUnclosed.desk = v.desk), ← hv]
  unfold State.noTicketUnclosed
  split_ifs with h
  · refine (?_ : _ ∨ _).elim .inl fun hr => .inr ⟨h, hr⟩
    split <;> simp [State.enterRun, RunRecord.enter]
  · exact .inl rfl

@[simp] theorem modEdition_some {s : State} {i : EditionId} {e : Edition} (h : s.edition i = some e)
    (f : Edition → Edition) : s.modEdition i f = s.setEdition i (f e) := by
  simp [State.modEdition, h]

theorem edition_of_editions {s u : State} (h : u.editions = s.editions) (i : EditionId) :
    u.edition i = s.edition i := by
  simp [State.edition, h]

theorem ticket_of_desk {s u : State} (h : u.desk = s.desk) (t : TicketId) : u.ticket t = s.ticket t := by
  simp [State.ticket, h]

/-- R35: what the cancellation of an ADMITTED ticket leaves. -/
theorem cancelAdmitted_desk (s : State) (x : TicketId) (k : Ticket) :
    (s.cancelAdmitted x k).desk =
      { s.desk with tickets := put s.desk.tickets x none, admitted := s.desk.admitted.erase x } := by
  unfold State.cancelAdmitted
  simp [State.freeTicket]

theorem cancelAdmitted_edition (s : State) (x : TicketId) (k : Ticket) (e : Edition) (i : EditionId)
    (h : s.edition k.edition = some e) :
    (s.cancelAdmitted x k).edition i = if k.edition = i then some (e.giveBack k.number) else s.edition i := by
  rw [← setEdition_edition]
  unfold State.cancelAdmitted
  exact edition_of_editions (by simp [h]) i

theorem cancelAdmitted_mayGoIdle (s : State) (x : TicketId) (k : Ticket) : s.mayGoIdle (s.cancelAdmitted x k) := by
  unfold State.cancelAdmitted
  exact noTicketUnclosed_mayGoIdle (by simp)

/-! ## A PRINTING ticket becomes CANCELLING -/

/-- A ticket as its cancellation while PRINTING leaves it (R35). -/
def Ticket.cancelled (k : Ticket) (cause : SpoilCause) : Ticket :=
  { k with state := .cancelling, spoilCause := some cause, qualifying := false, pauseTimer := none }

/-- R132: what a DENY to the pending request of a ticket leaves. -/
theorem denyRequest_engine (s : State) (p : TicketId → Bool) :
    (s.denyRequest p).engine = { s.engine with request := s.engine.request.filter fun q => !p q.ticket } := by
  rcases h : s.engine.request with _ | q
  · simp only [State.denyRequest, h, Option.filter_none]
    rw [← h]
  · by_cases hp : p q.ticket = true
    · simp [State.denyRequest, h, hp, Option.filter_some]
    · simp only [State.denyRequest, h, hp, Option.filter_some, Bool.not_false, if_true]
      rw [← h]
      rfl

theorem denyRequest_out (s : State) (p : TicketId → Bool) :
    (s.denyRequest p).out = s.out ++ ((s.engine.request.filter fun q => p q.ticket).map fun q =>
      Output.engine (.deny q.ticket)).toList := by
  rcases h : s.engine.request with _ | q
  · simp [State.denyRequest, h]
  · by_cases hp : p q.ticket = true <;> simp [State.denyRequest, h, hp, State.emit, Option.filter_some]

/-- R35, R37: what the cancellation of a PRINTING ticket leaves. -/
theorem cancelPrinting_becameCancelling (s : State) (x : TicketId) (k : Ticket) (cause : SpoilCause) (ho : s.out = []) :
    s.becameCancelling (s.cancelPrinting x k cause) x k cause := by
  have hdesk : (s.cancelPrinting x k cause).desk = (s.setTicket x (k.cancelled cause)).desk := by
    unfold State.cancelPrinting; split <;> simp [Ticket.cancelled]
  have hmedia : (s.cancelPrinting x k cause).media = { s.media with
      stops := withdrawStops (fun a => !a.handed && a.kind == .patchRead && a.ticket == x) s.media.stops } := by
    unfold State.cancelPrinting; split <;> simp [State.withdrawPatch]
  have heng : (s.cancelPrinting x k cause).engine = { s.engine with
      request := s.engine.request.filter fun q => !(q.ticket == x),
      owed := if k.outstanding then s.engine.owed else owedOf x (k.l - k.fed) } := by
    unfold State.cancelPrinting; split <;> simp [denyRequest_engine, *]
  have hout : (s.cancelPrinting x k cause).out = ((s.engine.request.filter fun q => q.ticket == x).map fun q =>
      Output.engine (.deny q.ticket)).toList := by
    unfold State.cancelPrinting; split <;> simp [denyRequest_out, ho]
  refine ⟨by simp [sameBut_iff], ?_, fun y hy => ?_, ?_, ?_, ?_, ?_, ?_, ?_, ?_, ?_⟩
  · rw [ticket_of_desk hdesk]; exact setTicket_ticket_self _ _ _
  · rw [ticket_of_desk hdesk]; exact setTicket_ticket_ne _ _ hy.symm
  · rw [hdesk]; rfl
  · rw [hmedia]
  · rw [placed_eq, hmedia, placedOf_withdrawStops]
    refine List.filter_congr fun a _ => ?_
    cases a.2.handed <;> simp
  · rw [hmedia]; exact withdrawStops_nonempty _ _
  · rw [heng, hout]
    rcases s.engine.request with _ | q
    · simp
    · by_cases hq : q.ticket = x <;> simp [Option.filter_some, hq]
  · rw [heng]
  · intro h; rw [heng]; simp [h]
  · intro h; rw [heng]; simp [h, owedOf, Nat.sub_eq_zero_iff_le]

/-! ## The requests of the family -/

theorem handle_ticketCancel_admitted (s : State) (x : TicketId) (k : Ticket) (hk : s.ticket x = some k)
    (hs : k.state = .admitted) :
    handle (.ticketCancel x.val) s = ((s.cancelAdmitted x k).settle s, ⟨.ok, .empty⟩) := by
  simp [handle, reqTicketCancel, asId_val, hk, hs, settled, accept]

theorem handle_ticketCancel_printing (s : State) (x : TicketId) (k : Ticket) (hk : s.ticket x = some k)
    (hs : k.state = .printing) :
    handle (.ticketCancel x.val) s = ((s.cancelPrinting x k .cancelled).settle s, ⟨.ok, .empty⟩) := by
  simp [handle, reqTicketCancel, asId_val, hk, hs, settled, accept]

/-- R35: in every other state the cancellation is refused. -/
theorem handle_ticketCancel_refused (s : State) (x : TicketId)
    (h : ∀ k, s.ticket x = some k → k.state ≠ .admitted ∧ k.state ≠ .printing) :
    handle (.ticketCancel x.val) s = (s, ⟨.badState, .empty⟩) := by
  rcases hk : s.ticket x with _ | k
  · simp [handle, reqTicketCancel, asId_val, hk, refuse]
  · obtain ⟨h1, h2⟩ := h k hk
    cases hs : k.state <;> simp_all [handle, reqTicketCancel, asId_val, refuse]

theorem handle_ticketCollect (s : State) (x : TicketId) :
    handle (.ticketCollect x.val) s = match s.ticket x with
      | none => (s, ⟨.badState, .empty⟩)
      | some k => if k.state.unclosed then (s, ⟨.badState, .empty⟩)
          else if k.outstanding then (s, ⟨.busy, .empty⟩)
          else (s.freeTicket x, ⟨.ok, .statement x (some k)⟩) := by
  simp only [handle, reqTicketCollect, asId_val]
  rfl

theorem unclosed_eq_false (st : TicketState) : st.unclosed = false ↔ st = .closedGood ∨ st = .closedSpoiled := by
  cases st <;> simp [TicketState.unclosed]

/-- R37: the expiry of a PRINTING ticket's running timer. -/
theorem exec_pauseExpiry (x : TicketId) (k : Ticket) (s : State) (hk : s.ticket x = some k) :
    exec (.pauseExpiry x) s = .next (if k.state = .printing ∧ k.pauseTimer ≠ none then
      (s.begin.cancelPrinting x k .pause).settle s.begin else s.begin) := by
  have hk' : s.begin.ticket x = some k := hk
  show Host.Outcome.next (pauseExpired x s.begin) = _
  simp [pauseExpired, hk', Option.isSome_iff_ne_none]

/-- Settles O27: the requests by what their block answers, the cancellations by `cancelAdmitted_desk` and
`cancelPrinting_becameCancelling`. -/
theorem ticketsAreCancelledAndCollected : Obligations.TicketsAreCancelledAndCollected := by
  refine ⟨fun tag id s hid => ⟨fun h => ?_, fun h => ?_⟩, fun tag x s h hx => ?_,
    fun tag x s h => ⟨fun k e hk hs he => ?_, fun hx => ?_⟩,
    fun x k s hk => ⟨fun hs tag h => ?_, fun hs hp => ?_, fun hn => ?_⟩, fun tag x k s h hk => ?_⟩
  · exact exec_answers rfl h (by simp [handle, reqTicketCancel, asId_out hid, refuse])
  · exact exec_answers rfl h (by simp [handle, reqTicketCollect, asId_out hid, refuse])
  · exact exec_answers rfl h (by rw [handle_ticketCollect, asked_ticket, hx])
  · obtain ⟨t, hex, ha⟩ := exec_answers (c := .ticketCancel tag x.val) rfl h
      (handle_ticketCancel_admitted s.asked x k (by simpa using hk) hs)
    have hed := cancelAdmitted_edition s.asked x k e
    simp only [asked_edition] at hed
    refine ⟨t, s.asked.cancelAdmitted x k, e.giveBack k.number, hex, ha, by simp [sameBut_iff], by simp,
      cancelAdmitted_mayGoIdle _ _ _, ?_, fun y hy => ?_, ?_, ?_, fun j hj => ?_, rfl, insertAsc_perm _ _,
      insertAsc_ascending _ _⟩
    · simp [State.ticket, cancelAdmitted_desk]
    · simpa [State.ticket, cancelAdmitted_desk] using put_ne _ _ hy.symm
    · simp [cancelAdmitted_desk]
    · rw [hed _ he, if_pos rfl]
    · rw [hed _ he, if_neg hj.symm]
  · refine exec_answers rfl h (handle_ticketCancel_refused _ _ fun k hk => ?_)
    rw [asked_ticket] at hk
    rcases hx with ⟨k', hk', h1, h2⟩ | hx
    · cases hk.symm.trans hk'; exact ⟨h1, h2⟩
    · simp [hx] at hk
  · obtain ⟨t, hex, ha⟩ := exec_answers (c := .ticketCancel tag x.val) rfl h
      (handle_ticketCancel_printing s.asked x k (by simpa using hk) hs)
    exact ⟨t, _, hex, ha, cancelPrinting_becameCancelling _ _ _ _ (by simp)⟩
  · exact ⟨_, by rw [exec_pauseExpiry x k s hk, if_pos ⟨hs, hp⟩], cancelPrinting_becameCancelling _ _ _ _ rfl⟩
  · rw [exec_pauseExpiry x k s hk, if_neg (by tauto)]
  · have hh := handle_ticketCollect s.asked x
    rw [asked_ticket, hk] at hh
    refine ⟨fun hs ho => ?_, fun hs ho => ?_, fun h1 h2 => ?_⟩
    · simp only [(unclosed_eq_false _).mpr hs, ho] at hh
      obtain ⟨t, hex, ha⟩ := exec_answers (c := .ticketCollect tag x.val) rfl h hh
      exact ⟨t, _, hex, ha, by simp [sameBut_iff], by simp, by simp,
        fun y hy => (freeTicket_ticket_ne _ hy.symm).trans (asked_ticket _ _), by simp [State.freeTicket]⟩
    · simp only [(unclosed_eq_false _).mpr hs, ho] at hh
      exact exec_answers rfl h hh
    · have hu : k.state.unclosed = true := by
        rw [← Bool.not_eq_false, unclosed_eq_false]; tauto
      simp only [hu] at hh
      exact exec_answers rfl h hh

end Sys2Proof.Machine
end

section
/-! PROOF. The close of a ticket at its trail cut, as it leaves the ticket and the queues (R16 to R19, R33, R38). -/

namespace Sys2Proof.Machine

open Sys2Proof

/-! ## Tickets under the shared operations -/

/-- A fold over the slots in their order applies its step to each ticket once. -/
theorem foldl_modTicket_ticket (f : Ticket → Ticket) (ts : List TicketId) (hn : ts.Nodup) (s : State) (t : TicketId) :
    (ts.foldl (fun s t => s.modTicket t f) s).ticket t = if t ∈ ts then (s.ticket t).map f else s.ticket t := by
  induction ts generalizing s with
  | nil => simp
  | cons u ts ih =>
    obtain ⟨hu, hn⟩ := List.nodup_cons.mp hn
    rw [List.foldl_cons, ih hn]
    rcases hk : s.ticket u with _ | k
    · rw [modTicket_none hk]
      by_cases ht : t = u
      · subst ht; simp [hk]
      · simp [ht]
    · rw [modTicket_some hk]
      by_cases ht : t = u
      · subst ht; simp [hu, hk]
      · simp [ht, setTicket_ticket_ne s _ (Ne.symm ht)]

theorem modTickets_ticket (s : State) (f : Ticket → Ticket) (t : TicketId) :
    (s.modTickets f).ticket t = (s.ticket t).map f := by
  rw [State.modTickets, foldl_modTicket_ticket f _ (List.nodup_finRange 8), if_pos (List.mem_finRange t)]

/-- The queues, and what of the desk no change of a ticket moves. -/
@[simp] theorem setTicket_queues (s : State) (t : TicketId) (k : Ticket) :
    (s.setTicket t k).desk.admitted = s.desk.admitted ∧ (s.setTicket t k).desk.path = s.desk.path ∧
      (s.setTicket t k).desk.pauseLimit = s.desk.pauseLimit := ⟨rfl, rfl, rfl⟩

@[simp] theorem modTicket_queues (s : State) (t : TicketId) (f : Ticket → Ticket) :
    (s.modTicket t f).desk.admitted = s.desk.admitted ∧ (s.modTicket t f).desk.path = s.desk.path ∧
      (s.modTicket t f).desk.pauseLimit = s.desk.pauseLimit := by
  unfold State.modTicket; split <;> simp

@[simp] theorem modTickets_queues (s : State) (f : Ticket → Ticket) :
    (s.modTickets f).desk.admitted = s.desk.admitted ∧ (s.modTickets f).desk.path = s.desk.path := by
  unfold State.modTickets
  exact ⟨foldl_keeps (fun s : State => s.desk.admitted) _ (by simp) _ _,
    foldl_keeps (fun s : State => s.desk.path) _ (by simp) _ _⟩

/-! ## Cancellation by the part -/

/-- R34: a cancellation by the part takes its ticket out of the admitted queue, and touches no other ticket. -/
theorem cancelByPart_desk (s : State) (t : TicketId) (cause : SpoilCause) :
    (s.cancelByPart t cause).desk.path = s.desk.path ∧
      (s.cancelByPart t cause).desk.admitted.Sublist s.desk.admitted ∧
      ∀ u, u ≠ t → (s.cancelByPart t cause).ticket u = s.ticket u := by
  unfold State.cancelByPart
  split
  · simp
  · rename_i k _
    refine ⟨by simp, by simp [List.erase_sublist], fun u hu => ?_⟩
    rw [ticket_of_desk (noTicketUnclosed_keeps _).2.1]
    exact (setTicket_ticket_ne _ _ hu.symm).trans (ticket_of_desk (by simp) u)

theorem cancelAll_desk (s : State) (ts : List TicketId) (cause : SpoilCause) :
    (s.cancelAll ts cause).desk.path = s.desk.path ∧
      (s.cancelAll ts cause).desk.admitted.Sublist s.desk.admitted ∧
      ∀ u, u ∉ ts → (s.cancelAll ts cause).ticket u = s.ticket u := by
  induction ts generalizing s with
  | nil => exact ⟨rfl, .refl _, fun _ _ => rfl⟩
  | cons t ts ih =>
    obtain ⟨hp, ha, hk⟩ := ih (s.cancelByPart t cause)
    obtain ⟨hp', ha', hk'⟩ := cancelByPart_desk s t cause
    refine ⟨hp.trans hp', ha.trans ha', fun u hu => ?_⟩
    obtain ⟨hut, hu⟩ := not_or.mp (mt List.mem_cons.mpr hu)
    exact (hk u hu).trans (hk' u hut)

/-- R33: a ticket outside the admitted queue loses at most its qualifying mark when its edition is stopped. -/
theorem stopEdition_desk (s : State) (i : EditionId) (cause : SpoilCause) :
    (s.stopEdition i cause).desk.path = s.desk.path ∧
      (s.stopEdition i cause).desk.admitted.Sublist s.desk.admitted ∧
      ∀ t, t ∉ s.desk.admitted → ∀ k, s.ticket t = some k →
        ∃ q, (s.stopEdition i cause).ticket t = some { k with qualifying := q } := by
  obtain ⟨hp, ha, hk⟩ := cancelAll_desk s (s.admittedOf i) cause
  refine ⟨by simpa [State.stopEdition] using hp, by simpa [State.stopEdition] using ha, fun t ht k hkt => ?_⟩
  rw [State.stopEdition, modTickets_ticket, hk t fun h => ht (List.mem_of_mem_filter h), hkt]
  by_cases hs : k.edition = i ∧ k.state.started = true
  · exact ⟨false, by simp [hs]⟩
  · exact ⟨k.qualifying, by simp [hs]⟩

/-! ## The edition's judgement -/

/-- R16 to R19: the judgement of a ticket outside the admitted queue leaves it but for its qualifying mark. -/
theorem editionJudges_desk (s : State) (k : Ticket) (cost : Nat) :
    (s.editionJudges k cost).1.desk.path = s.desk.path ∧
      (s.editionJudges k cost).1.desk.admitted.Sublist s.desk.admitted ∧
      ∀ t, t ∉ s.desk.admitted → ∀ k', s.ticket t = some k' →
        ∃ q, (s.editionJudges k cost).1.ticket t = some { k' with qualifying := q } := by
  have same : ∀ u : State, u.desk = s.desk → u.desk.path = s.desk.path ∧ u.desk.admitted.Sublist s.desk.admitted ∧
      ∀ t, t ∉ s.desk.admitted → ∀ k', s.ticket t = some k' → ∃ q, u.ticket t = some { k' with qualifying := q } :=
    fun u hu => ⟨by rw [hu], by rw [hu], fun t _ k' hk => ⟨k'.qualifying, by rw [ticket_of_desk hu, hk]⟩⟩
  unfold State.editionJudges
  rcases s.edition k.edition with _ | e
  · exact same _ rfl
  · dsimp only
    split
    · exact same _ (by simp)
    · dsimp only
      split
      · unfold State.holdByFailure
        simp only [setEdition_edition_self]
        generalize hu : ((State.setEdition _ _ _).setEdition _ _).raise _ = u
        have hd : u.desk = s.desk := by rw [← hu]; simp
        obtain ⟨hp, ha, hk⟩ := stopEdition_desk u k.edition .held
        rw [hd] at hp ha hk
        exact ⟨hp, ha, fun t ht k' hk' => hk t ht k' (by rw [ticket_of_desk hd, hk'])⟩
      · exact same _ (by simp)

/-! ## The close -/

/-- R26: a start test leaves a ticket that is not in the admitted queue, and lengthens the path at its end. -/
theorem startTest_desk (s : State) :
    s.desk.path <+: s.startTest.desk.path ∧ ∀ t, t ∉ s.desk.admitted → s.startTest.ticket t = s.ticket t := by
  unfold State.startTest
  split
  · exact ⟨List.prefix_rfl, fun _ _ => rfl⟩
  · rename_i x xs ha
    split
    · rcases hk : s.ticket x with _ | k
      · rw [startTicket_none s x hk]
        exact ⟨List.prefix_append _ _, fun _ _ => rfl⟩
      · rw [startTicket_eq s x k hk]
        refine ⟨by simp [Desk.start], fun t ht => ?_⟩
        have : x ≠ t := by rintro rfl; simp [ha] at ht
        simpa [State.ticket, Desk.start] using put_ne _ _ this
    · exact ⟨List.prefix_rfl, fun _ _ => rfl⟩

/-- A ticket as the record of its close leaves it (R38). -/
def Ticket.closed (k : Ticket) (o : Outcome) (cost : Nat) : Ticket :=
  match o with
  | .good u => { k with state := .closedGood, unverified := u, spoilCause := none, finalCost := some cost,
                        qualifying := false, pauseTimer := none }
  | .spoiled c => { k with state := .closedSpoiled, spoilCause := some c, finalCost := some cost,
                           qualifying := false, pauseTimer := none }

/-- The state in which the close of a ticket is recorded, before what follows from it (R38, R122). -/
def State.atClose (s : State) (x : TicketId) (k : Ticket) : State :=
  let s := s.withDesk { s.desk with tickets := put s.desk.tickets x (some k), path := s.desk.path.erase x }
  if s.desk.path.isEmpty then s.withMedia { s.media with eject := false } else s

theorem atClose_desk (s : State) (x : TicketId) (k : Ticket) : (s.atClose x k).desk =
    { s.desk with tickets := put s.desk.tickets x (some k), path := s.desk.path.erase x } := by
  unfold State.atClose; dsimp only; split <;> rfl

theorem atClose_notices (s : State) (x : TicketId) (k : Ticket) : (s.atClose x k).notices = s.notices := by
  unfold State.atClose; dsimp only; split <;> rfl

theorem recordClose_eq (s : State) (x : TicketId) (k : Ticket) (o : Outcome) (cost : Nat) (hk : s.ticket x = some k) :
    s.recordClose x o cost =
      ((s.atClose x (k.closed o cost)).raise .ticketClosed).drainPause.startTest.noTicketUnclosed := by
  unfold State.recordClose
  rw [modTicket_some hk]
  rfl

/-- R38: what the record of a close leaves of its ticket, the path and the notices. -/
theorem recordClose_desk (s : State) (x : TicketId) (k : Ticket) (o : Outcome) (cost : Nat) (hk : s.ticket x = some k)
    (hx : x ∉ s.desk.admitted) :
    (s.recordClose x o cost).ticket x = some (k.closed o cost) ∧
      s.desk.path.erase x <+: (s.recordClose x o cost).desk.path ∧
      (s.recordClose x o cost).notices = (s.raise .ticketClosed).notices := by
  rw [recordClose_eq s x k o cost hk, ticket_of_desk (noTicketUnclosed_keeps _).2.1]
  generalize hv : ((s.atClose x (k.closed o cost)).raise .ticketClosed).drainPause = v
  have hd : v.desk = { s.desk with
      tickets := put s.desk.tickets x (some (k.closed o cost)), path := s.desk.path.erase x } := by
    rw [← hv, ← atClose_desk]; simp
  obtain ⟨hpath, htick⟩ := startTest_desk v
  refine ⟨?_, ?_, ?_⟩
  · rw [htick x (by rw [hd]; exact hx)]
    simp [State.ticket, hd]
  · simpa [hd] using hpath
  · simp only [noTicketUnclosed_keeps, startTest_keeps, ← hv, drainPause_keeps]
    simp [State.raise, atClose_notices]

/-- The pending bit of a notice that is raised. -/
theorem raise_bit (s : State) (k : Notice) : (s.raise k).notices.pending.getLsbD k.number = true := by
  cases k <;> simp [State.raise, Notice.bit, Notice.number]

/-- R38: the ticket that closes at its trail cut: its cost is recorded, its fees and accumulator stand, it leaves
the path queue, and TICKET_CLOSED is raised. -/
theorem closeAtTrail_desk (s : State) (x : TicketId) (k : Ticket) (hk : s.ticket x = some k)
    (hx : x ∉ s.desk.admitted) :
    (∃ k', (s.closeAtTrail x).ticket x = some k' ∧ (k'.state = .closedGood ∨ k'.state = .closedSpoiled) ∧
      k'.finalCost = some k.cost ∧ k'.fees = k.fees) ∧
      s.desk.path.erase x <+: (s.closeAtTrail x).desk.path ∧
      (s.closeAtTrail x).notices.pending.getLsbD 0 = true := by
  have close : ∀ (v : State) (k₁ : Ticket) (o : Outcome), v.ticket x = some k₁ → k₁.fees = k.fees →
      x ∉ v.desk.admitted → v.desk.path = s.desk.path →
      (∃ k', (v.recordClose x o k.cost).ticket x = some k' ∧ (k'.state = .closedGood ∨ k'.state = .closedSpoiled) ∧
        k'.finalCost = some k.cost ∧ k'.fees = k.fees) ∧
      s.desk.path.erase x <+: (v.recordClose x o k.cost).desk.path ∧
      (v.recordClose x o k.cost).notices.pending.getLsbD 0 = true := by
    intro v k₁ o hv hf ha hp
    obtain ⟨ht, hpath, hn⟩ := recordClose_desk v x k₁ o k.cost hv ha
    rw [hp] at hpath
    refine ⟨⟨_, ht, ?_⟩, hpath, by rw [hn]; exact raise_bit v .ticketClosed⟩
    cases o <;> simp [Ticket.closed, hf]
  simp only [State.closeAtTrail, hk]
  split
  · exact close _ k _ ((ticket_of_desk (modEdition_keeps _ _ _).1 x).trans hk) rfl (by simpa using hx) (by simp)
  · obtain ⟨hp, ha, hq⟩ := editionJudges_desk s k k.cost
    obtain ⟨q, hq⟩ := hq x hx k hk
    exact close _ _ _ hq rfl (fun h => hx (ha.subset h)) hp

end Sys2Proof.Machine
end

section
/-! PROOF. The cutter: the ends of its traverses, the completion of its actions, jams and blades (chapter 8). -/

namespace Sys2Proof.Machine

open Sys2Proof

/-! ## Charges -/

theorem satAdd_eq_min (bound a b : Nat) : satAdd bound a b = min bound (a + b) := by
  unfold satAdd
  split_ifs <;> omega

/-- R61: what a charge leaves of the house account. -/
theorem chargeHouse_eq (s : State) (n : Nat) : s.chargeHouse n = s.withCosting { s.costing with
    house := min (2 ^ 64 - 1) (s.costing.house + n),
    houseSaturated := s.costing.houseSaturated || decide (2 ^ 64 - 1 < s.costing.house + n) } := by
  simp only [State.chargeHouse, satAdd_eq_min]
  rfl

theorem chargeHouse_costing {s v : State} (h : v.costing = s.costing) (n : Nat) :
    (v.chargeHouse n).costing = { s.costing with
      house := min (2 ^ 64 - 1) (s.costing.house + n),
      houseSaturated := s.costing.houseSaturated || decide (2 ^ 64 - 1 < s.costing.house + n) } := by
  rw [chargeHouse_eq, withCosting_costing, h]

/-- Two charges to the house account are one of their sum. -/
theorem chargeHouse_twice (s : State) (a b : Nat) : (s.chargeHouse a).chargeHouse b = s.chargeHouse (a + b) := by
  have hh : min (2 ^ 64 - 1) (min (2 ^ 64 - 1) (s.costing.house + a) + b) =
      min (2 ^ 64 - 1) (s.costing.house + (a + b)) := by omega
  have hs : ((s.costing.houseSaturated || decide (2 ^ 64 - 1 < s.costing.house + a)) ||
      decide (2 ^ 64 - 1 < min (2 ^ 64 - 1) (s.costing.house + a) + b)) =
      (s.costing.houseSaturated || decide (2 ^ 64 - 1 < s.costing.house + (a + b))) := by
    rw [Bool.or_assoc, ← Bool.decide_or]
    congr 2
    simp only [eq_iff_iff]
    omega
  rw [chargeHouse_eq (s.chargeHouse a), chargeHouse_eq, chargeHouse_eq, withCosting_costing, hh, hs]
  rfl

/-- R102: the ACTIVE roll, where it is the only one. -/
theorem activeRoll_eq (s : State) (r : RollId) (ρ : Roll) (hr : s.roll r = some ρ) (ha : ρ.state = .active)
    (hu : ∀ r' ρ', s.roll r' = some ρ' → ρ'.state = .active → r' = r) : s.activeRoll = some r := by
  refine find_finRange_first _ r (by simp [hr, ha]) fun r' h => ?_
  rcases hr' : s.roll r' with _ | ρ'
  · rfl
  · simpa using fun ha' => h.ne (hu r' ρ' hr' ha')

/-- R54: the price per mm of the only ACTIVE roll. -/
theorem activePrice_eq (s : State) (r : RollId) (ρ : Roll) (hr : s.roll r = some ρ) (ha : ρ.state = .active)
    (hu : ∀ r' ρ', s.roll r' = some ρ' → ρ'.state = .active → r' = r) : s.activePrice = ρ.width * ρ.price := by
  simp [State.activePrice, activeRoll_eq s r ρ hr ha hu, State.mediaPrice, hr]

theorem chargeHouse_activePrice (s : State) (n : Nat) : (s.chargeHouse n).activePrice = s.activePrice := by
  unfold State.chargeHouse
  generalize ({ s.costing with house := _, houseSaturated := _ } : Costing) = c
  rfl

/-! ## Completion of a stop action -/

/-- R118: the action that a completion finds is handed, and of its kind and ticket. -/
theorem handedAction_some {m : Media} {p : StopKind → Bool} {t : TicketId} {a : StopAction}
    (h : m.handedAction p t = some a) :
    (∃ pos, (pos, a) ∈ m.placed) ∧ a.handed = true ∧ p a.kind = true ∧ a.ticket = t := by
  have hp := List.find?_some h
  simp only [Bool.and_eq_true, beq_iff_eq] at hp
  obtain ⟨e, he, hae⟩ := List.mem_flatMap.mp (List.mem_of_find?_eq_some h)
  exact ⟨⟨e.position, List.mem_flatMap.mpr ⟨e, he, List.mem_map.mpr ⟨a, hae, rfl⟩⟩⟩, hp.1.1, hp.1.2, hp.2⟩

/-- R118: a completion finds an action where one is placed. -/
theorem handedAction_ne_none {m : Media} {p : StopKind → Bool} {t : TicketId} {pos : Nat} {a : StopAction}
    (h : (pos, a) ∈ m.placed) (hh : a.handed = true) (hp : p a.kind = true) (ht : a.ticket = t) :
    m.handedAction p t ≠ none := by
  obtain ⟨e, he, hae⟩ := List.mem_flatMap.mp h
  obtain ⟨b, hb, hab⟩ := List.mem_map.mp hae
  cases hab
  refine fun hn => ?_
  have := List.find?_eq_none.mp hn a (List.mem_flatMap.mpr ⟨e, he, hb⟩)
  simp [hh, hp, ht] at this

/-- The stop list without the handed actions of a kind and a ticket (R118). -/
theorem removeAction_media (s : State) (p : StopKind → Bool) (t : TicketId) :
    (s.removeAction p t).media = { s.media with stops := (s.removeAction p t).media.stops } ∧
      (s.removeAction p t).media.placed =
        s.media.placed.filter fun a => !(a.2.handed && p a.2.kind && a.2.ticket == t) :=
  ⟨rfl, placedOf_withdrawStops _ _⟩

theorem chargeHouse_removeAction (s : State) (n : Nat) (p : StopKind → Bool) (t : TicketId) :
    (s.chargeHouse n).removeAction p t = (s.removeAction p t).chargeHouse n := rfl

/-- R118: where no handed action of the kind and ticket stands, the list is as its removal leaves it. -/
theorem placed_of_no_handedAction {m : Media} {p : StopKind → Bool} {t : TicketId} (h : m.handedAction p t = none) :
    m.placed = m.placed.filter fun a => !(a.2.handed && p a.2.kind && a.2.ticket == t) := by
  refine (List.filter_eq_self.mpr fun a ha => ?_).symm
  by_contra hc
  simp only [Bool.not_eq_true', Bool.not_eq_false, Bool.and_eq_true, beq_iff_eq] at hc
  exact handedAction_ne_none ha hc.1.1 hc.1.2 hc.2 h

/-- R118: the completion of a SEPARATE moves the stop list alone. -/
theorem completeCut_separate (s : State) (t : TicketId) :
    s.sameBut [.media] (s.completeCut .separate t) ∧ (s.completeCut .separate t).out = s.out ∧
      (s.completeCut .separate t).media = { s.media with stops := (s.completeCut .separate t).media.stops } ∧
      (s.completeCut .separate t).media.placed = s.media.placed.filter fun a =>
        !(a.2.handed && a.2.kind == .separate && a.2.ticket == t) := by
  have hk : CutKind.separate.fits = (· == StopKind.separate) := by
    funext k; cases k <;> simp [CutKind.fits]
  unfold State.completeCut
  split
  · rename_i h
    rw [hk] at h
    exact ⟨by simp [sameBut_iff], rfl, rfl, placed_of_no_handedAction h⟩
  · rename_i a h
    obtain ⟨-, -, hfit, -⟩ := handedAction_some h
    have ha : a.kind = .separate := by simpa [hk] using hfit
    simp only [ha, hk]
    exact ⟨by simp [sameBut_iff], by simp, removeAction_media _ _ _⟩

/-- R118, R54: the completion of a LEAD_TRIM also charges its gap to the house account. -/
theorem completeCut_leadTrim (s : State) (t : TicketId) (pos gap : Nat)
    (hp : (pos, { kind := .leadTrim gap, ticket := t, handed := true }) ∈ s.media.placed)
    (hu : ∀ a ∈ s.media.placed, ∀ g, a.2 = { kind := .leadTrim g, ticket := t, handed := true } → g = gap) :
    s.completeCut .leadTrim t = (s.removeAction CutKind.leadTrim.fits t).chargeHouse (gap * s.activePrice) := by
  unfold State.completeCut
  split
  · rename_i h
    exact absurd h (handedAction_ne_none hp rfl rfl rfl)
  · rename_i a h
    obtain ⟨⟨pos', hpos⟩, hh, hfit, ht⟩ := handedAction_some h
    cases ha : a.kind with
    | leadTrim g =>
      rw [hu _ hpos g (by cases a; simp_all)]
      rfl
    | _ => simp [ha, CutKind.fits] at hfit

/-- R118: the completion of a TRAIL_CUT closes its ticket. -/
theorem completeCut_trailCut (s : State) (t : TicketId) (pos : Nat)
    (hp : (pos, { kind := .trailCut, ticket := t, handed := true }) ∈ s.media.placed) :
    s.completeCut .trailCut t = (s.removeAction (· == .trailCut) t).closeAtTrail t := by
  have hk : CutKind.trailCut.fits = (· == StopKind.trailCut) := by
    funext k; cases k <;> simp [CutKind.fits]
  unfold State.completeCut
  split
  · rename_i h
    exact absurd h (handedAction_ne_none hp rfl rfl rfl)
  · rename_i a h
    obtain ⟨-, -, hfit, -⟩ := handedAction_some h
    have ha : a.kind = .trailCut := by simpa [hk] using hfit
    simp only [ha, hk]

/-! ## The end of a held action -/

/-- R55: the cut fee of an unclosed ticket's cut. -/
theorem cutFee_ticket (s : State) (kind : CutKind) (t : TicketId) (k : Ticket) (hkind : kind ≠ .leadTrim)
    (hk : s.ticket t = some k) (hu : k.state.unclosed = true) :
    s.cutFee kind t = s.setTicket t { k with fees := k.fees + s.costing.cutFee } := by
  cases kind with
  | leadTrim => exact absurd rfl hkind
  | _ => simp [State.cutFee, hk, hu, State.chargeFee]

/-- R147, R149: the completion of an action that is not ignored. -/
def State.reportCut (s : State) (h : HeldCut) : State :=
  if h.ignored then s else (s.cutFee h.kind h.ticket).completeCut h.kind h.ticket

/-- R147, R149: a held action ends in the cutter's state and its notice, over its completion. -/
theorem endCut_eq (s : State) (h : HeldCut) :
    s.endCut h = ((s.reportCut h).withCutter { s.cutter with
      state := if s.cutter.life = 0 then .worn none else .idle }).withNotices { (s.reportCut h).notices with
        pending := if s.cutter.life = 0 then (s.reportCut h).notices.pending ||| 1#18 <<< 13
          else (s.reportCut h).notices.pending } := by
  have hc : (s.reportCut h).cutter = s.cutter := by unfold State.reportCut; split <;> simp
  change (if (s.reportCut h).cutter.life = 0 then
      ((s.reportCut h).withCutter { (s.reportCut h).cutter with state := .worn none }).raise .bladeWorn
    else (s.reportCut h).withCutter { (s.reportCut h).cutter with state := .idle }) = _
  rw [hc]
  split_ifs <;> rfl

/-- The cutter at the end of a held action. -/
def Cutter.cutEnded (c : Cutter) : Cutter := { c with state := if c.life = 0 then .worn none else .idle }

/-- The notices at the end of a held action, of a blade with so much life left. -/
def Notices.cutEnded (n : Notices) (life : Nat) : Notices :=
  { n with pending := if life = 0 then n.pending ||| 1#18 <<< 13 else n.pending }

/-- The end of a held action is its completion, but for the cutter and its notice. -/
theorem endCut_over (s : State) (h : HeldCut) :
    (s.reportCut h).sameBut [.cutter, .notices] (s.endCut h) ∧ (s.endCut h).out = (s.reportCut h).out ∧
      (s.endCut h).cutter = s.cutter.cutEnded ∧
      (s.endCut h).notices = (s.reportCut h).notices.cutEnded s.cutter.life := by
  rw [endCut_eq]
  exact ⟨by simp [sameBut_iff], rfl, rfl, rfl⟩

theorem reportCut_ignored (s : State) (h : HeldCut) (hi : h.ignored = true) : s.reportCut h = s := if_pos hi

/-- R54, R55, R118: the completion of a SEPARATE of an unclosed ticket. -/
theorem reportCut_separate (s : State) (h : HeldCut) (k : Ticket) (hi : h.ignored = false) (hkind : h.kind = .separate)
    (hk : s.ticket h.ticket = some k) (hu : k.state.unclosed = true) :
    s.sameBut [.desk, .media] (s.reportCut h) ∧ (s.reportCut h).out = s.out ∧
      (s.reportCut h).desk = (s.setTicket h.ticket { k with fees := k.fees + s.costing.cutFee }).desk ∧
      (s.reportCut h).media = { s.media with stops := (s.reportCut h).media.stops } ∧
      (s.reportCut h).media.placed = s.media.placed.filter fun a =>
        !(a.2.handed && a.2.kind == .separate && a.2.ticket == h.ticket) := by
  have hr : s.reportCut h = (s.setTicket h.ticket { k with fees := k.fees + s.costing.cutFee }).completeCut .separate
      h.ticket := by
    rw [State.reportCut, if_neg (by simp [hi]), cutFee_ticket s h.kind h.ticket k (by simp [hkind]) hk hu, hkind]
  obtain ⟨hs, ho, hm, hp⟩ := completeCut_separate (s.setTicket h.ticket { k with fees := k.fees + s.costing.cutFee })
    h.ticket
  rw [hr]
  exact ⟨sameBut_trans (bs := [.desk]) (by simp [sameBut_iff]) hs, ho.trans (by simp), hs.2 .desk (by simp), hm, hp⟩

/-- R54, R55, R118: the completion of a LEAD_TRIM. -/
theorem reportCut_leadTrim (s : State) (h : HeldCut) (pos gap : Nat) (r : RollId) (ρ : Roll) (hi : h.ignored = false)
    (hkind : h.kind = .leadTrim)
    (hp : (pos, { kind := .leadTrim gap, ticket := h.ticket, handed := true }) ∈ s.media.placed)
    (hu : ∀ a ∈ s.media.placed, ∀ g, a.2 = { kind := .leadTrim g, ticket := h.ticket, handed := true } → g = gap)
    (hr : s.roll r = some ρ) (ha : ρ.state = .active)
    (hone : ∀ r' ρ', s.roll r' = some ρ' → ρ'.state = .active → r' = r) :
    s.reportCut h = (s.removeAction CutKind.leadTrim.fits h.ticket).chargeHouse
      (s.costing.cutFee * 1000000 + gap * (ρ.width * ρ.price)) := by
  rw [State.reportCut, if_neg (by simp [hi]), hkind, State.cutFee,
    completeCut_leadTrim _ _ pos gap (by simpa using hp) (by simpa using hu), chargeHouse_activePrice,
    activePrice_eq s r ρ hr ha hone, ← chargeHouse_twice, chargeHouse_removeAction]

/-- R55, R118: the completion of a TRAIL_CUT of an unclosed ticket. -/
theorem reportCut_trailCut (s : State) (h : HeldCut) (k : Ticket) (a : Nat × StopAction) (hi : h.ignored = false)
    (hkind : h.kind = .trailCut) (hk : s.ticket h.ticket = some k) (hu : k.state.unclosed = true)
    (ha : a ∈ s.media.placed) (ha2 : a.2 = { kind := .trailCut, ticket := h.ticket, handed := true }) :
    s.reportCut h = ((s.setTicket h.ticket { k with fees := k.fees + s.costing.cutFee }).removeAction (· == .trailCut)
      h.ticket).closeAtTrail h.ticket := by
  rw [State.reportCut, if_neg (by simp [hi]), cutFee_ticket s h.kind h.ticket k (by simp [hkind]) hk hu, hkind]
  exact completeCut_trailCut _ _ a.1 (by rw [← ha2]; exact ha)

/-! ## Clearing a jam, and fitting a blade -/

theorem handle_cutterClearMade (s : State) (h : HeldCut) (hs : s.cutter.state = .jammed h) :
    handle .cutterClearMade s = ((s.sideTaken.endCut h).settle s, ⟨.ok, .empty⟩) := by
  simp [handle, reqCutterClearMade, hs, settled, accept]

theorem handle_cutterClearRetry (s : State) (h : HeldCut) (hs : s.cutter.state = .jammed h) :
    handle .cutterClearRetry s = ((s.retryCut h).settle s, ⟨.ok, .empty⟩) := by
  simp [handle, reqCutterClearRetry, hs, settled, accept]

/-- R149: outside JAMMED the clearing is refused. -/
theorem handle_cutterClear_refused (s : State) (hs : ∀ h, s.cutter.state ≠ .jammed h) :
    handle .cutterClearMade s = (s, ⟨.badState, .empty⟩) ∧ handle .cutterClearRetry s = (s, ⟨.badState, .empty⟩) := by
  cases hc : s.cutter.state with
  | jammed h => exact absurd hc (hs h)
  | _ => simp [handle, reqCutterClearMade, reqCutterClearRetry, hc, refuse]

theorem holdsMedia_iff (c : CutterState) :
    c.holdsMedia = true ↔ (∃ e m h, c = .cutting e m h) ∨ ∃ h, c = .jammed h := by
  cases c <;> simp [CutterState.holdsMedia]

theorem holdsMedia_eq_false (c : CutterState) : c.holdsMedia = false ↔ c = .idle ∨ ∃ w, c = .worn w := by
  cases c <;> simp [CutterState.holdsMedia]

theorem handle_bladeFit (s : State) (n : Nat) :
    handle (.bladeFit n) s = if s.cutter.state.holdsMedia then (s, ⟨.busy, .empty⟩)
      else if 100000 < n then (s, ⟨.range, .empty⟩) else ((s.fitBlade n).settle s, ⟨.ok, .bladeLife n⟩) := rfl

theorem mediaBusy_iff (s : State) : s.engine.mediaBusy = true ↔ s.moving := by
  unfold EngineLink.mediaBusy State.moving
  rcases h : s.engine.op with _ | ⟨_ | _ | _ | _ | _ | _, ab⟩ <;> simp

end Sys2Proof.Machine
end

section
/-! PROOF. Jams cleared and blades fitted (R149, R150). -/

namespace Sys2Proof.Machine

open Sys2Proof

/-- R146: the traverse goes to the end opposite the side, and takes a stroke of the blade's life. -/
theorem startTraverse_cutter (s : State) (h : HeldCut) : (s.startTraverse h).cutter = { s.cutter with
    life := s.cutter.life - 1, state := .cutting (if s.cutter.side = .homeEnd then .farEnd else .homeEnd) 4000 h } := by
  cases hs : s.cutter.side <;> simp [State.startTraverse, hs]

/-- R149: the side taken from the lines moves the cutter's side alone. -/
theorem sideTaken_cutter (s : State) : s.sideTaken.cutter = { s.cutter with side := s.cutter.sideFromLines } := rfl

/-- R149: a retry waits for a blade, or starts a traverse from the side taken. -/
theorem retryCut_eq (s : State) (h : HeldCut) :
    s.retryCut h = if s.cutter.life = 0 then
      (s.withCutter { s.cutter with side := s.cutter.sideFromLines, state := .worn (some h) }).raise .bladeWorn
    else s.sideTaken.startTraverse h := rfl

/-- R150: what a fit leaves of the cutter's notice. -/
theorem fitBlade_notices (s : State) (n : Nat) :
    (s.fitBlade n).notices = { s.notices with pending :=
      if s.cutter.state = .idle ∧ n = 0 then s.notices.pending ||| 1#18 <<< 13 else s.notices.pending } := by
  rcases hs : s.cutter.state with _ | ⟨e, m, h⟩ | h | _ | h <;> by_cases hn : n = 0 <;>
    simp [State.fitBlade, hs, hn, State.raise, Notice.bit, Notice.number]
  by_cases hb : h.ignored = true ∧ s.engine.mediaBusy = true <;> simp [hb]

/-- R150: the blade fitted into an idle cutter, or into a worn one with nothing waiting. -/
theorem fitBlade_cutter (s : State) (n : Nat) (hs : s.cutter.state = .idle ∨ s.cutter.state = .worn none) :
    (s.fitBlade n).cutter = { s.cutter with life := n, state := if n = 0 then .worn none else .idle } := by
  rcases hs with hs | hs <;> by_cases hn : n = 0 <;> simp [State.fitBlade, hs, hn]

/-- R150, R142: the blade fitted into a worn cutter with an action waiting. -/
theorem fitBlade_waiting (s : State) (n : Nat) (h : HeldCut) (hs : s.cutter.state = .worn (some h)) :
    (n = 0 → (s.fitBlade n).cutter = { s.cutter with life := 0 }) ∧
    (0 < n → h.ignored = false ∨ ¬ s.moving → (s.fitBlade n).cutter = { s.cutter with
      life := n - 1, state := .cutting (if s.cutter.side = .homeEnd then .farEnd else .homeEnd) 4000 h }) ∧
    (0 < n → h.ignored = true → s.moving → (s.fitBlade n).cutter = { s.cutter with life := n, state := .idle }) := by
  refine ⟨fun hn => ?_, fun hn hm => ?_, fun hn hi hm => ?_⟩
  · simp [State.fitBlade, hs, hn]
  · have hb : (h.ignored && s.engine.mediaBusy) = false := by
      rcases hm with hm | hm
      · simp [hm]
      · rw [← mediaBusy_iff] at hm; simp [hm]
    have hf : s.fitBlade n = (s.withCutter { s.cutter with life := n }).startTraverse h := by
      simp [State.fitBlade, hs, hb, hn.ne']
    rw [hf, startTraverse_cutter]
    rfl
  · rw [← mediaBusy_iff] at hm
    simp [State.fitBlade, hs, hn.ne', hi, hm]

/-- R149: the answer to a clearing that was made, by what the end of the held action leaves. -/
theorem exec_cutterClearMade (tag : Nat) (s : State) (h : HeldCut) (ht : s.takesAtOnce .cutterClearMade)
    (hs : s.cutter.state = .jammed h) :
    ∃ t, exec (.cutterClearMade tag) s = .next t ∧
      ((s.asked.sideTaken.endCut h).settle s.asked).answers t tag .ok .empty :=
  exec_answers rfl ht (handle_cutterClearMade s.asked h (by simpa using hs))

/-- Settles O49: the made clear by the completions of `State.reportCut`, the retry by `retryCut_eq`, the fit by
`fitBlade_cutter` and `fitBlade_waiting`. -/
theorem jamsAreClearedAndBladesFitted : Obligations.JamsAreClearedAndBladesFitted := by
  intro tag s
  refine ⟨fun ht => ⟨fun hn => ?_, fun h hs hi => ?_, fun h k hs hi hkind hk hu => ?_,
    fun h pos gap r ρ hs hi hkind hp hu hr ha hone => ?_,
    fun h k a hs hi hkind hk hu hadm ha ha2 => ?_⟩, fun ht => ⟨fun hn => ?_, fun h hs => ?_⟩,
    fun n ht => ⟨fun hs => ?_, fun hs hn => ?_, fun hs hn => ?_⟩⟩
  · exact exec_answers rfl ht (handle_cutterClear_refused s.asked (by simpa using hn)).1
  · obtain ⟨t, hex, hans⟩ := exec_cutterClearMade tag s h ht hs
    obtain ⟨hsame, hout, hcut, hnot⟩ := endCut_over s.asked.sideTaken h
    rw [reportCut_ignored _ h hi] at hsame hout hnot
    refine ⟨t, _, hex, hans, ?_, hout.trans (by simp), ?_, ?_⟩
    · simpa [sameBut_iff] using hsame
    · rw [hcut, sideTaken_cutter]; simp [Cutter.cutEnded, Cutter.sideFromLines]
    · rw [hnot, sideTaken_cutter]; simp [Notices.cutEnded]
  · obtain ⟨t, hex, hans⟩ := exec_cutterClearMade tag s h ht hs
    obtain ⟨hsame, -, hcut, -⟩ := endCut_over s.asked.sideTaken h
    obtain ⟨-, -, hdesk, -⟩ := reportCut_separate s.asked.sideTaken h k hi hkind (by rw [← hk]; simp [State.ticket]) hu
    refine ⟨t, _, hex, hans, by rw [hcut]; simp [Cutter.cutEnded, sideTaken_cutter], ?_⟩
    rw [ticket_of_desk (hsame.2 .desk (by simp)), ticket_of_desk hdesk]
    simp
  · obtain ⟨t, hex, hans⟩ := exec_cutterClearMade tag s h ht hs
    obtain ⟨hsame, -, hcut, -⟩ := endCut_over s.asked.sideTaken h
    have hrep := reportCut_leadTrim s.asked.sideTaken h pos gap r ρ hi hkind (by simpa using hp) (by simpa using hu)
      (by rw [← hr]; simp [State.roll]) ha (by simpa [State.roll] using hone)
    refine ⟨t, _, hex, hans, by rw [hcut]; simp [Cutter.cutEnded, sideTaken_cutter], ?_⟩
    have hcost : (s.asked.sideTaken.endCut h).costing = (s.asked.sideTaken.reportCut h).costing :=
      hsame.2 .costing (by simp)
    rw [hcost, hrep, chargeHouse_eq]
    simp
  · obtain ⟨t, hex, hans⟩ := exec_cutterClearMade tag s h ht hs
    obtain ⟨hsame, -, hcut, -⟩ := endCut_over s.asked.sideTaken h
    have hk' : s.asked.sideTaken.ticket h.ticket = some k := by rw [← hk]; simp [State.ticket]
    rw [reportCut_trailCut s.asked.sideTaken h k a hi hkind hk' hu (by simpa using ha) ha2] at hsame
    generalize hv : (s.asked.sideTaken.setTicket h.ticket _).removeAction _ _ = v at hsame
    have hvk : v.ticket h.ticket = some { k with fees := k.fees + s.costing.cutFee } := by
      rw [← hv, ticket_of_desk (removeAction_keeps _ _ _).2.1]
      simp
    obtain ⟨⟨k', hk'', hst, -, hfees⟩, -, -⟩ := closeAtTrail_desk v h.ticket _ hvk (by rw [← hv]; simpa using hadm)
    exact ⟨t, _, k', hex, hans, by rw [hcut]; simp [Cutter.cutEnded, sideTaken_cutter],
      (ticket_of_desk (hsame.2 .desk (by simp)) _).trans hk'', hst, hfees⟩
  · exact exec_answers rfl ht (handle_cutterClear_refused s.asked (by simpa using hn)).2
  · obtain ⟨t, hex, hans⟩ := exec_answers (c := .cutterClearRetry tag) rfl ht
      (handle_cutterClearRetry s.asked h (by simpa using hs))
    refine ⟨t, _, hex, hans, by simp [sameBut_iff], by simp, fun hl => ?_, fun hl => ?_⟩
    · rw [retryCut_eq, if_pos (by simpa using hl)]
      exact ⟨by simp [Cutter.sideFromLines], by simp [State.raise, Notice.bit, Notice.number]⟩
    · rw [retryCut_eq, if_neg (by simpa using hl.ne'), startTraverse_cutter]
      exact ⟨by simp, by simp [sideTaken_cutter, Cutter.sideFromLines]⟩
  · refine exec_answers rfl ht ?_
    rw [handle_bladeFit, if_pos (by simpa using (holdsMedia_iff _).mpr hs)]
  · refine exec_answers rfl ht ?_
    rw [handle_bladeFit, if_neg (by simp [(holdsMedia_eq_false _).mpr hs]), if_pos hn]
  · obtain ⟨t, hex, hans⟩ := exec_answers (c := .bladeFit tag n) rfl ht ((handle_bladeFit s.asked n).trans (by
      rw [if_neg (by simp [(holdsMedia_eq_false _).mpr hs]), if_neg (by omega)]))
    refine ⟨t, _, hex, hans, by simp [sameBut_iff], by simp, by simpa using fitBlade_notices s.asked n, fun h hw => ?_,
      fun hw => ?_⟩
    · simpa [State.moving] using fitBlade_waiting s.asked n h (by simpa using hw)
    · have hs' : s.cutter.state = .idle ∨ s.cutter.state = .worn none := by
        refine hs.imp_right ?_
        rintro ⟨_ | h, hs⟩
        · exact hs
        · exact absurd hs (hw h)
      simpa using fitBlade_cutter s.asked n (by simpa using hs')

end Sys2Proof.Machine
end

section
/-! PROOF. The carriage's lines and the cut timer (R145, R147, R148, R38, R54, R55). -/

namespace Sys2Proof.Machine

open Sys2Proof

/-- The rise of an end's line. -/
def lineRise : CarriageEnd → Instr
  | .homeEnd => .homeLineRise
  | .farEnd => .endLineRise

theorem exec_lineRise (x : CarriageEnd) (s : State) :
    exec (lineRise x) s = .next (((s.begin.setCutterLine x true).carriageAt x).settle s.begin) := by
  cases x <;> rfl

@[simp] theorem setCutterLine_state (s : State) (x : CarriageEnd) (level : Bool) :
    (s.setCutterLine x level).cutter.state = s.cutter.state := by
  cases x <;> rfl

/-- R145: elsewhere than in CUTTING the side follows the carriage. -/
theorem carriageAt_still (s : State) (x : CarriageEnd) (h : ∀ e n c, s.cutter.state ≠ .cutting e n c) :
    s.carriageAt x = s.withCutter { s.cutter with side := x } := by
  unfold State.carriageAt
  split
  · exact absurd ‹_› (h _ _ _)
  · rfl

/-- R147: in CUTTING the other end's line is ignored. -/
theorem carriageAt_other (s : State) (x target : CarriageEnd) (n : Nat) (h : HeldCut)
    (hs : s.cutter.state = .cutting target n h) (hx : x ≠ target) : s.carriageAt x = s := by
  simp [State.carriageAt, hs, hx]

/-- The cutter once the carriage stands at an end (R145, R147). -/
def Cutter.arrived (c : Cutter) (x : CarriageEnd) : Cutter :=
  { c with side := x, homeLine := c.homeLine || x == .homeEnd, endLine := c.endLine || x == .farEnd }

/-- R147: the target's line ends the traverse. -/
theorem carriageAt_target (s : State) (target : CarriageEnd) (n : Nat) (h : HeldCut)
    (hs : s.cutter.state = .cutting target n h) :
    (s.setCutterLine target true).carriageAt target = (s.withCutter (s.cutter.arrived target)).endCut h := by
  have : (s.setCutterLine target true).withCutter { (s.setCutterLine target true).cutter with side := target } =
      s.withCutter (s.cutter.arrived target) := by
    cases target <;> simp [State.setCutterLine, Cutter.arrived, State.withCutter]
  rw [← this]
  simp [State.carriageAt, hs]

/-- R148: the cut timer's expiry jams the traverse. -/
theorem exec_cutTimerExpiry (s : State) (e : CarriageEnd) (n : Nat) (h : HeldCut)
    (hs : s.cutter.state = .cutting e n h) :
    exec .cutTimerExpiry s = .next (((s.begin.withCutter { s.cutter with state := .jammed h }).raise .cutterJam).settle
      s.begin) := by
  show Host.Outcome.next (cutTimerExpired s.begin) = _
  simp [cutTimerExpired, hs]

/-- R148: a stopped cut timer does not expire. -/
theorem exec_cutTimerExpiry_still (s : State) (h : ∀ e n c, s.cutter.state ≠ .cutting e n c) :
    exec .cutTimerExpiry s = .next s.begin := by
  show Host.Outcome.next (cutTimerExpired s.begin) = _
  unfold cutTimerExpired
  split
  · exact absurd ‹_› (h _ _ _)
  · rfl

/-- R145, R147, R148: the lines and the timer where no traverse ends. -/
theorem lines_without_end (s : State) :
    (s.cutter.state = .idle ∨ (∃ h, s.cutter.state = .jammed h) ∨ (∃ w, s.cutter.state = .worn w) →
      exec .homeLineRise s = .next (State.settle (s.begin.withCutter
        { s.cutter with homeLine := true, side := .homeEnd }) s.begin) ∧
      exec .endLineRise s = .next (State.settle (s.begin.withCutter { s.cutter with endLine := true, side := .farEnd })
        s.begin)) ∧
    (∀ n h, s.cutter.state = .cutting .farEnd n h →
      exec .homeLineRise s = .next (State.settle (s.begin.withCutter { s.cutter with homeLine := true }) s.begin)) ∧
    (∀ n h, s.cutter.state = .cutting .homeEnd n h →
      exec .endLineRise s = .next (State.settle (s.begin.withCutter { s.cutter with endLine := true }) s.begin)) := by
  refine ⟨fun hs => ?_, fun n h hs => ?_, fun n h hs => ?_⟩
  · have hn : ∀ e n c, s.cutter.state ≠ .cutting e n c := by
      rcases hs with hs | ⟨h, hs⟩ | ⟨w, hs⟩ <;> simp [hs]
    have hmove := fun x => carriageAt_still (s.begin.setCutterLine x true) x (by simpa using hn)
    exact ⟨(exec_lineRise .homeEnd s).trans (by rw [hmove]; rfl), (exec_lineRise .farEnd s).trans (by rw [hmove]; rfl)⟩
  · exact (exec_lineRise .homeEnd s).trans (by
      rw [carriageAt_other _ .homeEnd .farEnd n h (by simpa using hs) nofun]; rfl)
  · exact (exec_lineRise .farEnd s).trans (by
      rw [carriageAt_other _ .farEnd .homeEnd n h (by simpa using hs) nofun]; rfl)

/-- R57: the cost of a ticket, in the words of the rule. -/
theorem cost_eq (k : Ticket) :
    k.cost = k.acc / 1000000 + (if 500000 ≤ k.acc % 1000000 then 1 else 0) + k.fees := by
  rw [Ticket.cost, roundCu]

/-- The state in which the held action of a traverse ends: a new event, the carriage at its target. -/
def State.arrivedAt (s : State) (target : CarriageEnd) : State := s.begin.withCutter (s.cutter.arrived target)

@[simp] theorem arrivedAt_keeps (s : State) (x : CarriageEnd) :
    (s.arrivedAt x).editions = s.editions ∧ (s.arrivedAt x).desk = s.desk ∧ (s.arrivedAt x).costing = s.costing ∧
    (s.arrivedAt x).supply = s.supply ∧ (s.arrivedAt x).tags = s.tags ∧ (s.arrivedAt x).media = s.media ∧
    (s.arrivedAt x).engine = s.engine ∧ (s.arrivedAt x).colour = s.colour ∧ (s.arrivedAt x).run = s.run ∧
    (s.arrivedAt x).link = s.link ∧ (s.arrivedAt x).notices = s.notices ∧ (s.arrivedAt x).date = s.date ∧
    (s.arrivedAt x).out = [] ∧ (s.arrivedAt x).pending = s.pending ∧
    (s.arrivedAt x).cutter = s.cutter.arrived x := by
  simp [State.arrivedAt, State.begin]

/-- R147: the rise of the target's line ends the held action. -/
theorem exec_lineRise_target (s : State) (target : CarriageEnd) (n : Nat) (h : HeldCut)
    (hs : s.cutter.state = .cutting target n h) :
    exec (lineRise target) s = .next (((s.arrivedAt target).endCut h).settle s.begin) := by
  rw [exec_lineRise, carriageAt_target _ target n h (by simpa using hs)]
  rfl

/-- R147: the cutter's own block at the end of a traverse. -/
theorem arrived_cutEnded (c : Cutter) (target : CarriageEnd) : (c.arrived target).cutEnded =
    { c with state := if c.life = 0 then .worn none else .idle, side := target,
             homeLine := c.homeLine || target == .homeEnd, endLine := c.endLine || target == .farEnd } := rfl

/-- R147, R149: the end of the held action of a traverse, over the completion of that action. -/
theorem endCut_arrived (s : State) (target : CarriageEnd) (h : HeldCut) :
    ((s.arrivedAt target).reportCut h).sameBut [.cutter, .notices] ((s.arrivedAt target).endCut h) ∧
      ((s.arrivedAt target).endCut h).out = ((s.arrivedAt target).reportCut h).out ∧
      ((s.arrivedAt target).endCut h).cutter = (s.cutter.arrived target).cutEnded ∧
      ((s.arrivedAt target).endCut h).notices =
        ((s.arrivedAt target).reportCut h).notices.cutEnded s.cutter.life := by
  have hl : (s.cutter.arrived target).life = s.cutter.life := rfl
  simpa [hl] using endCut_over (s.arrivedAt target) h

theorem arrivedAt_same (s : State) (x : CarriageEnd) : s.sameBut [.cutter] (s.arrivedAt x) := by
  simp [sameBut_iff]

end Sys2Proof.Machine
end

section
/-! PROOF. Actions handed to their units: what a reached stop entry does (R118, R146, R159, R160, R166). -/

namespace Sys2Proof.Machine

open Sys2Proof

/-! ## The end of a read -/

/-- R166: a read that could not be made writes UNVERIFIED, and no other field of any ticket. -/
theorem endRead_unverified_ticket (s : State) (t y : TicketId) :
    (s.endRead t .unverified).ticket y =
      (s.ticket y).map fun k => if t = y then { k with verdict := .unverified } else k := by
  have hd : (s.endRead t .unverified).desk = (s.writeVerdict t .unverified).desk := by
    simp [State.endRead, State.checkFee]
  rw [ticket_of_desk hd]
  unfold State.writeVerdict
  rcases hk : s.ticket t with _ | k
  · by_cases hty : t = y
    · subst hty; simp [hk]
    · simp [hty]
  · simp only [setTicket_ticket]
    by_cases hty : t = y
    · subst hty; simp [hk]
    · simp [hty]

theorem endRead_queues (s : State) (t : TicketId) :
    (s.endRead t .unverified).desk = { s.desk with tickets := (s.endRead t .unverified).desk.tickets } := by
  have hd : (s.endRead t .unverified).desk = (s.writeVerdict t .unverified).desk := by
    simp [State.endRead, State.checkFee]
  rw [hd]
  unfold State.writeVerdict
  rcases hk : s.ticket t with _ | k <;> rfl

theorem endRead_unverified_notices (s : State) (t : TicketId) : (s.endRead t .unverified).notices = s.notices := by
  rcases hk : s.ticket t with _ | k <;> simp [State.endRead, State.writeVerdict, State.checkFee, hk]

/-! ## A read handed to the colour check unit -/

/-- What of a ticket the handing of its read looks at, and its verdict. -/
def Ticket.readFacts (k : Ticket) : Option RefsetId × Nat × Verdict := (k.refset, k.patches, k.verdict)

/-- R159, R166, R167: a read that is not made as soon as it is handed: its set holds as many targets as the ticket has
patches, and the sensor has not failed, or the settle timer runs. -/
def State.readTaken (s : State) (t : TicketId) : Prop :=
  ∃ k r, s.ticket t = some k ∧ k.refset = some r ∧ (s.refset r).targets ≠ [] ∧
    (s.refset r).targets.length = k.patches ∧ (s.colour.settle ≠ none ∨ s.colour.sensor ≠ .failed)

/-- R159, R160: a read that is taken moves the colour check unit alone, which keeps its sets, its settle timer and a
sensor that has not failed. -/
theorem handRead_taken (s : State) (t : TicketId) (h : s.readTaken t) :
    s.sameBut [.colour] (s.handRead t) ∧ (s.handRead t).colour.sets = s.colour.sets ∧
      (s.handRead t).colour.settle = s.colour.settle ∧
      (s.colour.sensor ≠ .failed → (s.handRead t).colour.sensor ≠ .failed) := by
  obtain ⟨k, r, hk, hr, hne, hlen, hready⟩ := h
  have hgood : ((s.refset r).targets.isEmpty || (s.refset r).targets.length != k.patches) = false := by
    simp [hne, hlen]
  simp only [State.handRead, hk, hr, hgood, Bool.false_eq_true, if_false]
  rcases hset : s.colour.settle with _ | n
  · rcases hsen : s.colour.sensor with _ | _ | _ | _ | _
    case idle =>
      by_cases hc : s.colour.calCount = 50 <;>
        simp [hc, sameBut_iff, State.sendCalibrate, State.sendMeasure]
    case failed => simp [hset, hsen] at hready
    all_goals simp [sameBut_iff, State.sendCalibrate]
  · simp [sameBut_iff]

/-- R166, R167: a read that is not taken ends at once with UNVERIFIED, of a ticket that is not FREE. -/
theorem handRead_ended (s : State) (t : TicketId) (h : ¬ s.readTaken t) :
    s.handRead t = s ∧ s.ticket t = none ∨ s.handRead t = s.endRead t .unverified ∨
      s.handRead t = (s.raise .sensorFault).endRead t .unverified := by
  rcases hk : s.ticket t with _ | k
  · exact .inl ⟨by simp [State.handRead, hk], rfl⟩
  rcases hr : k.refset with _ | r
  · exact .inr (.inl (by simp [State.handRead, hk, hr]))
  by_cases hgood : (s.refset r).targets ≠ [] ∧ (s.refset r).targets.length = k.patches
  · have hready : s.colour.settle = none ∧ s.colour.sensor = .failed := by
      by_contra hc
      exact h ⟨k, r, hk, hr, hgood.1, hgood.2, by tauto⟩
    refine .inr (.inr ?_)
    simp [State.handRead, hk, hr, hgood, hready]
  · refine .inr (.inl ?_)
    have hbad : ((s.refset r).targets.isEmpty || (s.refset r).targets.length != k.patches) = true := by
      simp only [Bool.or_eq_true, List.isEmpty_iff, bne_iff_ne]; tauto
    simp only [State.handRead, hk, hr, hbad, if_true]

/-- What every handed read leaves: the media path but for its stop list, the queues, the engine, the cutter, the run;
of the tickets it changes the verdict of its own; and it takes no notice back. -/
theorem handRead_over (s : State) (t : TicketId) :
    s.sameBut [.desk, .media, .colour, .notices] (s.handRead t) ∧
      (s.handRead t).media = { s.media with stops := (s.handRead t).media.stops } ∧
      (s.handRead t).desk = { s.desk with tickets := (s.handRead t).desk.tickets } ∧
      (∀ y, (s.handRead t).ticket y = s.ticket y ∨
        y = t ∧ (s.handRead t).ticket y = (s.ticket y).map fun k => { k with verdict := .unverified }) ∧
      (∀ i, s.notices.pending.getLsbD i = true → (s.handRead t).notices.pending.getLsbD i = true) := by
  have ended : ∀ v : State, v.desk = s.desk → ∀ y, (v.endRead t .unverified).ticket y = s.ticket y ∨
      y = t ∧ (v.endRead t .unverified).ticket y = (s.ticket y).map fun k => { k with verdict := .unverified } := by
    intro v hv y
    rw [endRead_unverified_ticket, ticket_of_desk hv]
    by_cases hty : t = y
    · exact .inr ⟨hty.symm, by simp [hty]⟩
    · exact .inl (by simp [hty])
  by_cases h : s.readTaken t
  · obtain ⟨hs, -⟩ := handRead_taken s t h
    have hdesk := hs.2 .desk (by simp)
    have hmedia := hs.2 .media (by simp)
    have hnot := hs.2 .notices (by simp)
    exact ⟨sameBut_weaken hs (by simp), by rw [hmedia], by rw [hdesk], fun y => .inl (ticket_of_desk hdesk y),
      fun i hi => by rwa [hnot]⟩
  · rcases handRead_ended s t h with ⟨he, -⟩ | he | he <;> rw [he]
    · exact ⟨by simp [sameBut_iff], rfl, rfl, fun _ => .inl rfl, fun _ h => h⟩
    · exact ⟨by simp [sameBut_iff], by simp [State.endRead, State.removeAction], endRead_queues s t, ended s rfl,
        by simp [endRead_unverified_notices]⟩
    · refine ⟨by simp [sameBut_iff], by simp [State.endRead, State.removeAction], ?_, ended _ (by simp), fun i hi => ?_⟩
      · simpa using endRead_queues (s.raise .sensorFault) t
      · simp [endRead_unverified_notices, State.raise, hi]

theorem sendCalibrate_ticket (s : State) (y : TicketId) : s.sendCalibrate.ticket y = s.ticket y := rfl

theorem sendMeasure_ticket (s : State) (n : Nat) (y : TicketId) : (s.sendMeasure n).ticket y = s.ticket y := rfl

theorem raise_ticket (s : State) (n : Notice) (y : TicketId) : (s.raise n).ticket y = s.ticket y := rfl

theorem sendCalibrate_colour (s : State) : s.sendCalibrate.colour =
    { s.colour with sensor := .calibrating, exchange := (s.colour.exchange + 1) % 256, timer := some 10000 } := rfl

theorem sendMeasure_colour (s : State) (n : Nat) : (s.sendMeasure n).colour = { s.colour with
    sensor := .measuring, exchange := (s.colour.exchange + 1) % 256,
    calCount := satAdd 50 s.colour.calCount 1, timer := some 3000 } := rfl

/-- The unit and the verdict after a handed read depend on the unit and on its ticket's facts alone. -/
theorem handRead_congr {s v : State} (t : TicketId) (hc : v.colour = s.colour)
    (hf : (v.ticket t).map Ticket.readFacts = (s.ticket t).map Ticket.readFacts) :
    (v.handRead t).colour = (s.handRead t).colour ∧
      ((v.handRead t).ticket t).map (·.verdict) = ((s.handRead t).ticket t).map (·.verdict) := by
  have hset : ∀ r, v.refset r = s.refset r := fun r => by simp [State.refset, hc]
  rcases hs : s.ticket t with _ | k <;> rcases hv : v.ticket t with _ | k' <;>
    simp only [hs, hv, Option.map_some, Option.map_none, reduceCtorEq, Option.some.injEq, Ticket.readFacts,
      Prod.mk.injEq] at hf
  · simp [State.handRead, hs, hv, hc]
  obtain ⟨hr, hp, hver⟩ := hf
  simp only [State.handRead, hs, hv, hr, hp, hset, hc]
  rcases k.refset with _ | r
  · simp [endRead_unverified_ticket, hs, hv, hc]
  rcases s.colour.sensor with _ | _ | _ | _ | _ <;> dsimp only <;> split_ifs <;>
    simp [sendCalibrate_ticket, sendMeasure_ticket, sendCalibrate_colour, sendMeasure_colour,
      endRead_unverified_ticket, raise_ticket, hs, hv, hver, hc]

end Sys2Proof.Machine
end

section
/-! PROOF. A stop entry reached (R118, R146, R159). -/

namespace Sys2Proof.Machine

open Sys2Proof

/-- What is withdrawn from a stop list makes no new position. -/
theorem withdrawStops_positions (p : StopAction → Bool) (es : List StopEntry) :
    ∀ e ∈ withdrawStops p es, ∃ e' ∈ es, e'.position = e.position := by
  intro e he
  obtain ⟨e', he', hsome⟩ := List.mem_filterMap.mp he
  dsimp only at hsome
  split at hsome
  · exact absurd hsome nofun
  · exact ⟨e', he', by rw [← Option.some.inj hsome]⟩

/-! ## A cut handed to the cutter -/

/-- The cut action that an action of the stop list asks of the cutter. -/
def StopAction.heldCut (a : StopAction) : HeldCut :=
  { kind := match a.kind with
      | .leadTrim _ => .leadTrim
      | .separate => .separate
      | _ => .trailCut,
    ticket := a.ticket, ignored := false }

/-- The cutter once a cut was handed to it (R146). -/
def Cutter.taken (c : Cutter) (h : HeldCut) : Cutter :=
  match c.state with
  | .idle => { c with
      life := c.life - 1, state := .cutting (if c.side = .homeEnd then .farEnd else .homeEnd) 4000 h }
  | .worn _ => { c with state := .worn (some h) }
  | _ => c

theorem handCut_cutter (s : State) (kind : CutKind) (t : TicketId) :
    (s.handCut kind t).cutter = s.cutter.taken { kind := kind, ticket := t, ignored := false } := by
  rcases hs : s.cutter.state with _ | ⟨e, n, h⟩ | h | w
  · simp only [State.handCut, hs, Cutter.taken]
    exact startTraverse_cutter _ _
  all_goals simp [State.handCut, Cutter.taken, hs]

theorem handCut_same (s : State) (kind : CutKind) (t : TicketId) :
    s.sameBut [.cutter, .notices] (s.handCut kind t) := by
  unfold State.handCut
  split <;> simp [sameBut_iff, State.startTraverse]

theorem handCut_notices (s : State) (kind : CutKind) (t : TicketId) :
    (∀ i, s.notices.pending.getLsbD i = true → (s.handCut kind t).notices.pending.getLsbD i = true) ∧
      (∀ w, s.cutter.state = .worn w → (s.handCut kind t).notices.pending.getLsbD 13 = true) := by
  unfold State.handCut
  split
  · exact ⟨by simp [State.startTraverse], by simp [*]⟩
  · refine ⟨fun i hi => by simp [State.raise, hi], fun w _ => ?_⟩
    exact raise_bit _ .bladeWorn
  · exact ⟨fun _ h => h, fun w hw => absurd hw (by simp_all)⟩

theorem handAction_cut (s : State) (a : StopAction) (h : a.kind ≠ .patchRead) :
    s.handAction a = s.handCut a.heldCut.kind a.ticket := by
  obtain ⟨kind, t, handed⟩ := a
  cases kind with
  | patchRead => exact absurd rfl h
  | leadTrim gap => rfl
  | separate => rfl
  | trailCut => rfl

theorem handAction_read (s : State) (a : StopAction) (h : a.kind = .patchRead) :
    s.handAction a = s.handRead a.ticket := by
  rw [State.handAction, h]

/-! ## Actions handed in their order -/

/-- What the handing of actions to their units leaves: the blocks besides the tickets' verdicts, the stop list, the
cutter, the colour check unit and the notices, none of which is taken back; a verdict that changes is that of a
ticket with a read among the actions; and the stop list gets no new position. -/
structure State.handedOver (s v : State) (as : List StopAction) : Prop where
  same : s.sameBut [.desk, .media, .cutter, .colour, .notices] v
  media : v.media = { s.media with stops := v.media.stops }
  stops : ∀ e ∈ v.media.stops, ∃ e' ∈ s.media.stops, e'.position = e.position
  desk : v.desk = { s.desk with tickets := v.desk.tickets }
  ticket : ∀ y, v.ticket y = s.ticket y ∨ (∃ a ∈ as, a.kind = .patchRead ∧ a.ticket = y) ∧
    v.ticket y = (s.ticket y).map fun k => { k with verdict := .unverified }
  notices : ∀ i, s.notices.pending.getLsbD i = true → v.notices.pending.getLsbD i = true

theorem State.handedOver.refl (s : State) : s.handedOver s [] where
  same := by simp [sameBut_iff]
  media := rfl
  stops e he := ⟨e, he, rfl⟩
  desk := rfl
  ticket _ := .inl rfl
  notices _ h := h

theorem State.handedOver.trans {s u v : State} {as bs : List StopAction} (h : s.handedOver u as)
    (h' : u.handedOver v bs) : s.handedOver v (as ++ bs) where
  same := sameBut_weaken (sameBut_trans h.same h'.same) (by simp)
  media := by rw [h'.media, h.media]
  stops e he := by
    obtain ⟨e₁, he₁, h₁⟩ := h'.stops e he
    obtain ⟨e₂, he₂, h₂⟩ := h.stops e₁ he₁
    exact ⟨e₂, he₂, h₂.trans h₁⟩
  desk := by rw [h'.desk, h.desk]
  ticket y := by
    rcases h'.ticket y with h₁ | ⟨⟨b, hb, hb'⟩, h₁⟩ <;> rcases h.ticket y with h₂ | ⟨⟨a, ha, ha'⟩, h₂⟩ <;> rw [h₁, h₂]
    · exact .inl rfl
    · exact .inr ⟨⟨a, by simp [ha], ha'⟩, rfl⟩
    · exact .inr ⟨⟨b, by simp [hb], hb'⟩, rfl⟩
    · exact .inr ⟨⟨a, by simp [ha], ha'⟩, by cases s.ticket y <;> rfl⟩
  notices i hi := h'.notices i (h.notices i hi)

theorem handRead_stops (s : State) (t : TicketId) :
    ∀ e ∈ (s.handRead t).media.stops, ∃ e' ∈ s.media.stops, e'.position = e.position := by
  by_cases h : s.readTaken t
  · intro e he
    exact ⟨e, by rwa [(handRead_taken s t h).1.2 .media (by simp)] at he, rfl⟩
  · rcases handRead_ended s t h with ⟨he, -⟩ | he | he <;> rw [he]
    · exact fun e he => ⟨e, he, rfl⟩
    · exact fun e he => withdrawStops_positions _ s.media.stops e
        (by simpa [State.endRead, State.removeAction] using he)
    · exact fun e he => withdrawStops_positions _ s.media.stops e
        (by simpa [State.endRead, State.removeAction] using he)

theorem handAction_over (s : State) (a : StopAction) : s.handedOver (s.handAction a) [a] := by
  by_cases h : a.kind = .patchRead
  · rw [handAction_read s a h]
    obtain ⟨hs, hm, hd, ht, hn⟩ := handRead_over s a.ticket
    refine ⟨sameBut_weaken hs (by simp), hm, handRead_stops s _, hd, fun y => ?_, hn⟩
    rcases ht y with he | ⟨hy, he⟩
    · exact .inl he
    · exact .inr ⟨⟨a, by simp, h, hy.symm⟩, he⟩
  · rw [handAction_cut s a h]
    have hs := handCut_same s a.heldCut.kind a.ticket
    have hmedia := hs.2 .media (by simp)
    have hdesk := hs.2 .desk (by simp)
    exact ⟨sameBut_weaken hs (by simp), by rw [hmedia], fun e he => ⟨e, by rwa [hmedia] at he, rfl⟩, by rw [hdesk],
      fun y => .inl (ticket_of_desk hdesk y), (handCut_notices s _ _).1⟩

theorem handAll_cons (s : State) (a : StopAction) (as : List StopAction) :
    s.handAll (a :: as) = (s.handAction a).handAll as := rfl

theorem handAll_append (s : State) (as bs : List StopAction) :
    s.handAll (as ++ bs) = (s.handAll as).handAll bs := List.foldl_append

theorem handAll_over (as : List StopAction) (s : State) : s.handedOver (s.handAll as) as := by
  induction as generalizing s with
  | nil => exact .refl s
  | cons a as ih => exact (handAction_over s a).trans (ih (s.handAction a))

/-! ## What the handed actions come to -/

theorem handAll_reads_cutter (as : List StopAction) (h : ∀ a ∈ as, a.kind = .patchRead) (s : State) :
    (s.handAll as).cutter = s.cutter := by
  induction as generalizing s with
  | nil => rfl
  | cons a as ih =>
    rw [handAll_cons, ih (fun b hb => h b (by simp [hb])), handAction_read s a (h a (by simp))]
    exact (handRead_over s a.ticket).1.2 .cutter (by simp)

theorem handAll_cuts_same (as : List StopAction) (h : ∀ a ∈ as, a.kind ≠ .patchRead) (s : State) :
    s.sameBut [.cutter, .notices] (s.handAll as) := by
  induction as generalizing s with
  | nil => simp [State.handAll, sameBut_iff]
  | cons a as ih =>
    rw [handAll_cons, handAction_cut s a (h a (by simp))]
    exact sameBut_weaken (sameBut_trans (handCut_same s _ _) (ih (fun b hb => h b (by simp [hb])) _)) (by simp)

/-- What of a state decides whether a read is taken. -/
theorem readTaken_congr {s v : State} {t : TicketId} (ht : v.ticket t = s.ticket t)
    (hsets : v.colour.sets = s.colour.sets) (hsettle : v.colour.settle = s.colour.settle)
    (hsensor : s.colour.sensor ≠ .failed → v.colour.sensor ≠ .failed) (h : s.readTaken t) : v.readTaken t := by
  obtain ⟨k, r, hk, hr, hne, hlen, hready⟩ := h
  have hset : v.refset r = s.refset r := by simp [State.refset, hsets]
  exact ⟨k, r, ht.trans hk, hr, by rwa [hset], by rwa [hset], by rw [hsettle]; exact hready.imp_right hsensor⟩

/-- R159, R167: where every read of the list is taken, no action ends as it is handed. -/
theorem handAll_readsTaken (as : List StopAction) (s : State)
    (h : ∀ a ∈ as, a.kind = .patchRead → s.readTaken a.ticket) : (s.handAll as).media = s.media := by
  induction as generalizing s with
  | nil => rfl
  | cons a as ih =>
    rw [handAll_cons]
    have keep : (s.handAction a).media = s.media ∧ (s.handAction a).desk = s.desk ∧
        (s.handAction a).colour.sets = s.colour.sets ∧ (s.handAction a).colour.settle = s.colour.settle ∧
        (s.colour.sensor ≠ .failed → (s.handAction a).colour.sensor ≠ .failed) := by
      by_cases ha : a.kind = .patchRead
      · rw [handAction_read s a ha]
        obtain ⟨hs, hsets, hsettle, hsensor⟩ := handRead_taken s a.ticket (h a (by simp) ha)
        exact ⟨hs.2 .media (by simp), hs.2 .desk (by simp), hsets, hsettle, hsensor⟩
      · rw [handAction_cut s a ha]
        have hs := handCut_same s a.heldCut.kind a.ticket
        have hcolour : (s.handCut a.heldCut.kind a.ticket).colour = s.colour := hs.2 .colour (by simp)
        exact ⟨hs.2 .media (by simp), hs.2 .desk (by simp), by rw [hcolour], by rw [hcolour], by rw [hcolour]; exact id⟩
    obtain ⟨hmedia, hdesk, hsets, hsettle, hsensor⟩ := keep
    rw [ih _ fun b hb hread => readTaken_congr (ticket_of_desk hdesk _) hsets hsettle hsensor
      (h b (by simp [hb]) hread), hmedia]

/-- R146: the one cut of a list goes to the cutter as the reached state has it. -/
theorem handAll_oneCut (as : List StopAction) (a : StopAction) (s : State)
    (h : (as.filter fun b => !(b.kind == .patchRead)) = [a]) :
    (s.handAll as).cutter = s.cutter.taken a.heldCut ∧
      (∀ w, s.cutter.state = .worn w → (s.handAll as).notices.pending.getLsbD 13 = true) := by
  obtain ⟨l₁, l₂, rfl, hl₁, ha, hl₂⟩ := List.filter_eq_cons_iff.mp h
  have hl₁ : ∀ b ∈ l₁, b.kind = .patchRead := fun b hb => by simpa using hl₁ b hb
  have hl₂ : ∀ b ∈ l₂, b.kind = .patchRead := fun b hb => by simpa using List.filter_eq_nil_iff.mp hl₂ b hb
  have ha : a.kind ≠ .patchRead := by simpa using ha
  have hbefore := handAll_reads_cutter l₁ hl₁ s
  rw [handAll_append, handAll_cons, handAction_cut _ a ha]
  refine ⟨?_, fun w hw => ?_⟩
  · rw [handAll_reads_cutter l₂ hl₂, handCut_cutter, hbefore]; rfl
  · exact (handAll_over l₂ _).notices 13 ((handCut_notices _ _ _).2 w (by rw [hbefore]; exact hw))

/-- R159: the one read of a list goes to the colour check unit as the reached state has it. -/
theorem handAll_oneRead (as : List StopAction) (b : StopAction) (s : State)
    (h : (as.filter fun b => b.kind == .patchRead) = [b]) :
    (s.handAll as).colour = (s.handRead b.ticket).colour ∧
      ((s.handAll as).ticket b.ticket).map (·.verdict) = ((s.handRead b.ticket).ticket b.ticket).map (·.verdict) := by
  obtain ⟨l₁, l₂, rfl, hl₁, hb, hl₂⟩ := List.filter_eq_cons_iff.mp h
  have hl₁ : ∀ b ∈ l₁, b.kind ≠ .patchRead := fun b hb => by simpa using hl₁ b hb
  have hl₂ : ∀ b ∈ l₂, b.kind ≠ .patchRead := fun b hb => by simpa using List.filter_eq_nil_iff.mp hl₂ b hb
  have hb : b.kind = .patchRead := by simpa using hb
  have hbefore := handAll_cuts_same l₁ hl₁ s
  have hafter := handAll_cuts_same l₂ hl₂ ((s.handAll l₁).handRead b.ticket)
  obtain ⟨hcolour, hverdict⟩ := handRead_congr (s := s) (v := s.handAll l₁) b.ticket (hbefore.2 .colour (by simp))
    (by rw [ticket_of_desk (hbefore.2 .desk (by simp))])
  rw [handAll_append, handAll_cons, handAction_read _ b hb]
  exact ⟨(hafter.2 .colour (by simp)).trans hcolour,
    (congrArg _ (ticket_of_desk (hafter.2 .desk (by simp)) _)).trans hverdict⟩

/-! ## The first entry reached -/

/-- R118: the entry with its actions marked handed. -/
def StopEntry.handed (e : StopEntry) : StopEntry :=
  { e with actions := e.actions.map fun a => { a with handed := true } }

theorem reachStop_at (s : State) (e : StopEntry) (es : List StopEntry) (hs : s.media.stops = e :: es)
    (he : e.position = s.media.position) :
    s.reachStop = (s.withMedia { s.media with stops := e.handed :: es }).handAll (e.actions.filter (!·.handed)) := by
  simp only [State.reachStop, hs]
  exact if_pos he

theorem reachStop_short (s : State) (h : ∀ e es, s.media.stops = e :: es → e.position ≠ s.media.position) :
    s.reachStop = s := by
  unfold State.reachStop
  split
  · rfl
  · exact if_neg (h _ _ ‹_›)

/-- What is reached depends on the cutter, the colour check unit and the tickets' facts of the state; so a state that
differs from it in other things has reached the same. -/
theorem reached_reachStop (s v : State) (e : StopEntry) (es : List StopEntry) (hs : v.media.stops = e :: es)
    (he : e.position = v.media.position) (hun : ∀ a ∈ e.actions, a.handed = false)
    (hcut : v.cutter = s.cutter) (hcol : v.colour = s.colour)
    (hfacts : ∀ y, (v.ticket y).map Ticket.readFacts = (s.ticket y).map Ticket.readFacts) :
    s.reached v.reachStop e es := by
  have hall : e.actions.filter (fun a => !a.handed) = e.actions :=
    List.filter_eq_self.mpr fun a ha => by simp [hun a ha]
  rw [reachStop_at v e es hs he, hall]
  generalize hw : v.withMedia { v.media with stops := e.handed :: es } = w
  have hwcut : w.cutter = s.cutter := by rw [← hw]; exact hcut
  have hwcol : w.colour = s.colour := by rw [← hw]; exact hcol
  have hwfacts : ∀ y, (w.ticket y).map Ticket.readFacts = (s.ticket y).map Ticket.readFacts := by
    rw [← hw]; exact hfacts
  have hwstops : w.media.stops = e.handed :: es := by rw [← hw]; rfl
  refine ⟨fun h => ?_, fun h => ?_, fun a c ha hc => ?_, fun h => ?_, fun b hb => ?_⟩
  · rw [handAll_readsTaken e.actions w, hwstops]
    · rfl
    · intro a ha hread
      obtain ⟨k, r, hk, hr, hne, hlen, hready⟩ := h a ha hread
      have hset : w.refset r = s.refset r := by simp [State.refset, hwcol]
      have hf := hwfacts a.ticket
      rcases hk' : w.ticket a.ticket with _ | k' <;> rw [hk, hk'] at hf
      · exact absurd hf nofun
      · simp only [Ticket.readFacts, Option.map_some, Option.some.injEq, Prod.mk.injEq] at hf
        exact ⟨k', r, hk', hf.1.trans hr, by rwa [hset], by rw [hset, hf.2.1]; exact hlen, by rwa [hwcol]⟩
  · rw [handAll_reads_cutter e.actions h, hwcut]
  · obtain ⟨hc', hn⟩ := handAll_oneCut e.actions a w ha
    have hc : c = a.heldCut := hc
    rw [hwcut, ← hc] at hc'
    refine ⟨fun hi => ?_, fun x hx => ⟨?_, hn x (by rwa [hwcut])⟩⟩
    · rw [hc', Cutter.taken, hi]
    · rw [hc', Cutter.taken, hx]
  · exact ((handAll_cuts_same e.actions h w).2 .colour (by simp)).trans hwcol
  · obtain ⟨hc, hv⟩ := handAll_oneRead e.actions b w hb
    obtain ⟨hc', hv'⟩ := handRead_congr (s := s) (v := w) b.ticket hwcol (hwfacts _)
    exact ⟨hc.trans hc', hv.trans hv'⟩

/-- What is reached is of the stop list, the cutter, the colour check unit, the tickets' verdicts and the notices. -/
theorem reached_congr {s u v : State} {e : StopEntry} {es : List StopEntry} (h : s.reached v e es)
    (hm : u.media.stops = v.media.stops) (hcut : u.cutter = v.cutter) (hcol : u.colour = v.colour)
    (hn : u.notices = v.notices) (hv : ∀ y, (u.ticket y).map (·.verdict) = (v.ticket y).map (·.verdict)) :
    s.reached u e es := by
  obtain ⟨hstops, hreads, honeCut, hcuts, honeRead⟩ := h
  refine ⟨by rwa [hm], by rwa [hcut], by rwa [hcut, hn], by rwa [hcol], fun b hb => ?_⟩
  rw [hcol, hv]
  exact honeRead b hb

end Sys2Proof.Machine
end

section
/-! PROOF. What a swath's drops are charged (R46 to R52, R74, R75). -/

namespace Sys2Proof.Machine

open Sys2Proof

/-! ## A debit touches one channel -/

/-- A channel and its two tank slots. -/
def State.bottles (s : State) (b : ChannelId) : Channel × TankSlot × TankSlot :=
  (s.channel b, s.tank (tankOf b .a), s.tank (tankOf b .b))

theorem tankOf_ne {b c : ChannelId} (h : b ≠ c) (x y : Side) : tankOf c x ≠ tankOf b y := by
  have : b.val ≠ c.val := Fin.val_ne_of_ne h
  cases x <;> cases y <;> simp [tankOf] <;> omega

theorem bottles_of_supply {u s : State} (h : u.supply = s.supply) (b : ChannelId) : u.bottles b = s.bottles b := by
  simp [State.bottles, State.channel, State.tank, h]

theorem queueTag_bottles (s : State) (t : TankId) (op : TagOp) (b : ChannelId) :
    (s.queueTag t op).bottles b = s.bottles b := bottles_of_supply (by simp) b

theorem raise_bottles (s : State) (k : Notice) (b : ChannelId) : (s.raise k).bottles b = s.bottles b := rfl

theorem raiseIf_bottles (s : State) (x : Bool) (k : Notice) (b : ChannelId) : (s.raiseIf x k).bottles b = s.bottles b :=
  bottles_of_supply (by simp) b

theorem inkTicket_bottles (s : State) (c : ChannelId) (t : Option TicketId) (d n : Nat) (b : ChannelId) :
    (s.inkTicket c t d n).bottles b = s.bottles b := bottles_of_supply (by simp) b

theorem setChannel_bottles (s : State) {b c : ChannelId} (h : b ≠ c) (x : Channel) :
    (s.setChannel c x).bottles b = s.bottles b := by
  simp [State.bottles, setChannel_channel_ne _ _ h.symm]

theorem setTank_bottles (s : State) {b c : ChannelId} (h : b ≠ c) (y : Side) (x : TankSlot) :
    (s.setTank (tankOf c y) x).bottles b = s.bottles b := by
  simp [State.bottles, setTank_tank_ne _ _ (tankOf_ne h y _)]

theorem writeBack_bottles (s : State) {b c : ChannelId} (h : b ≠ c) (y : Side) :
    (s.writeBack (tankOf c y)).bottles b = s.bottles b := by
  unfold State.writeBack
  split
  · rfl
  · exact (queueTag_bottles _ _ _ b).trans (setTank_bottles s h y _)

theorem writeBackIfNeeded_bottles (s : State) {b c : ChannelId} (h : b ≠ c) (y : Side) :
    (s.writeBackIfNeeded (tankOf c y)).bottles b = s.bottles b := by
  unfold State.writeBackIfNeeded
  split
  · rfl
  · split_ifs
    · exact writeBack_bottles s h y
    · rfl

theorem switchTest_bottles (s : State) {b c : ChannelId} (h : b ≠ c) : (s.switchTest c).bottles b = s.bottles b := by
  have start : ∀ x, (s.startSwitch c x).bottles b = s.bottles b := fun x => setChannel_bottles s h _
  unfold State.switchTest
  (repeat' split) <;> first | rfl | exact start _

theorem runDry_bottles (s : State) {b c : ChannelId} (h : b ≠ c) : (s.runDry c).bottles b = s.bottles b := by
  have dry : ∀ x y ch, (((s.setTank (tankOf c x) y).writeBackIfNeeded (tankOf c x)).setChannel c ch).bottles b =
      s.bottles b := fun x y ch =>
    (setChannel_bottles _ h ch).trans ((writeBackIfNeeded_bottles _ h x).trans (setTank_bottles s h x y))
  unfold State.runDry
  split
  · split
    · dsimp only
      split_ifs
      · exact (raise_bottles _ _ b).trans (dry _ _ _)
      · exact (raise_bottles _ _ b).trans (dry _ _ _)
      · rfl
    · rfl
  · rfl

theorem afterDebit_bottles (s : State) {b c : ChannelId} (h : b ≠ c) (y : Side) (n : Nat) :
    (s.afterDebit c (tankOf c y) n).bottles b = s.bottles b := by
  unfold State.afterDebit
  split
  · rfl
  · dsimp only
    rw [runDry_bottles _ h, switchTest_bottles _ h]
    split_ifs
    · exact (writeBack_bottles _ h y).trans (raiseIf_bottles _ _ _ b)
    · exact raiseIf_bottles _ _ _ b

/-- R74: a channel is fed from a tank with a record. -/
def State.drawsFrom (s : State) (c : ChannelId) (x : Side) (st : HeldState) (r : TankRecord) : Prop :=
  (s.channel c).feed = .fed x ∧ s.tank (tankOf c x) = .held st r

theorem debit_drawn {s : State} {c : ChannelId} {x : Side} {st : HeldState} {r : TankRecord}
    (h : s.drawsFrom c x st r) (d : Nat) (t : Option TicketId) :
    s.debit c d t =
      (((((s.setTank (tankOf c x) (.held st { r with fill := r.fill - min d r.fill })).overdrawChannel c
        (d - min d r.fill)).inkTicket c t d (d - min d r.fill)).afterDebit c (tankOf c x) r.fill),
        min d r.fill * r.price + (d - min d r.fill) * (s.channel c).lastPrice) := by
  simp only [State.debit, h.1, h.2]

/-- R75: nothing is drawn from a tank where none feeds. -/
theorem debit_beyond {s : State} {c : ChannelId} (h : ∀ x st r, ¬ s.drawsFrom c x st r) (d : Nat)
    (t : Option TicketId) :
    s.debit c d t = ((s.overdrawChannel c d).inkTicket c t d d, d * (s.channel c).lastPrice) := by
  unfold State.debit
  dsimp only
  split
  · split
    · exact absurd ⟨‹_›, ‹_›⟩ (h _ _ _)
    · rfl
  · rfl

/-- R74, R75: a debit of a channel touches no other channel and none of its slots. -/
theorem debit_bottles (s : State) {b c : ChannelId} (h : b ≠ c) (d : Nat) (t : Option TicketId) :
    (s.debit c d t).1.bottles b = s.bottles b := by
  have drawn : ∀ (u : State) m n, ((u.overdrawChannel c m).inkTicket c t n m).bottles b = u.bottles b := fun u m n =>
    (inkTicket_bottles _ _ _ _ _ b).trans (setChannel_bottles u h _)
  by_cases hd : ∃ x st r, s.drawsFrom c x st r
  · obtain ⟨x, st, r, hd⟩ := hd
    rw [debit_drawn hd]
    exact (afterDebit_bottles _ h _ _).trans ((drawn _ _ _).trans (setTank_bottles s h _ _))
  · rw [debit_beyond (by simpa using hd)]
    exact drawn s d d

/-- R51, R75: the price that a debit answers is that of the state it is made in. -/
theorem debit_price (s : State) (c : ChannelId) (d : Nat) (t : Option TicketId) :
    (s.debit c d t).2 = s.chargeOf c d := by
  by_cases hd : ∃ x st r, s.drawsFrom c x st r
  · obtain ⟨x, st, r, hd⟩ := hd
    have hsub : d - min d r.fill = d - r.fill := by omega
    rw [debit_drawn hd, hsub]
    simp only [State.chargeOf, hd.1, hd.2]
  · rw [debit_beyond (by simpa using hd)]
    unfold State.chargeOf
    split
    · split
      · exact absurd ⟨_, _, _, ‹_›, ‹_›⟩ hd
      · rfl
    · rfl

theorem chargeOf_congr {u s : State} {c : ChannelId} (h : u.bottles c = s.bottles c) (d : Nat) :
    u.chargeOf c d = s.chargeOf c d := by
  simp only [State.bottles, Prod.mk.injEq] at h
  obtain ⟨hc, ha, hb⟩ := h
  unfold State.chargeOf
  rw [hc]
  cases (s.channel c).feed with
  | fed y => cases y <;> simp only [ha, hb]
  | _ => rfl

/-! ## The ticket's side of a debit -/

/-- A ticket with its ink counts, its overdraw mark, its accumulator and its clamp mark from another. -/
def Ticket.inkedAs (k k' : Ticket) : Ticket :=
  { k with ink := k'.ink, acc := k'.acc, saturated := k'.saturated, overdraw := k'.overdraw,
           countClamped := k'.countClamped }

theorem setTicket_setTicket_desk (s : State) (t : TicketId) (j k : Ticket) :
    ((s.setTicket t j).setTicket t k).desk = (s.setTicket t k).desk := by
  simp [State.setTicket, put_put]

/-- The desk with one ticket written depends on the desk alone. -/
theorem setTicket_desk {u s : State} (h : u.desk = s.desk) (t : TicketId) (k : Ticket) :
    (u.setTicket t k).desk = (s.setTicket t k).desk := by
  simp [State.setTicket, h]

/-- R74, R75: a ticket's debit writes its ink and its overdraw mark. -/
theorem debit_desk (s : State) (c : ChannelId) (d : Nat) (t : TicketId) (k : Ticket) (hk : s.ticket t = some k) :
    ∃ o, (s.debit c d (some t)).1.desk =
      (s.setTicket t { k with ink := put k.ink c (satAdd (top 32) k.ink[c] d), overdraw := o }).desk := by
  have drawn : ∀ (u : State) n, u.desk = s.desk → ∃ o, ((u.overdrawChannel c n).inkTicket c (some t) d n).desk =
      (s.setTicket t { k with ink := put k.ink c (satAdd (top 32) k.ink[c] d), overdraw := o }).desk := by
    intro u n hu
    have hd : (u.overdrawChannel c n).desk = s.desk := by simp [hu]
    refine ⟨k.overdraw || decide (0 < n), ?_⟩
    simp only [State.inkTicket]
    rw [modTicket_some ((ticket_of_desk hd t).trans hk)]
    exact setTicket_desk hd t _
  by_cases hd : ∃ x st r, s.drawsFrom c x st r
  · obtain ⟨x, st, r, hd⟩ := hd
    rw [debit_drawn hd]
    simpa using drawn _ (d - min d r.fill) (setTank_keeps s _ _).2.1
  · rw [debit_beyond (by simpa using hd)]
    exact drawn s d rfl

/-! ## One channel of a report -/

theorem meterChannel_none (s : State) (t : TicketId) (n : DropCounts) (c : ChannelId) (h : countsNone n = true) :
    s.meterChannel t n c = s := by
  simp [State.meterChannel, h]

/-- The state in which the debit of a channel is handed: its residue taken, the ticket's clamp mark set (R48, R49). -/
def State.atDebit (s : State) (t : TicketId) (n : DropCounts) (c : ChannelId) (k : Ticket) : State :=
  (s.setTicket t { k with countClamped := k.countClamped || countsClamp n }).withCosting
    { s.costing with residues := put s.costing.residues c (s.metered c n % 10000) }

theorem meterChannel_some (s : State) (t : TicketId) (n : DropCounts) (c : ChannelId) (k : Ticket)
    (hk : s.ticket t = some k) (h : countsNone n = false) :
    s.meterChannel t n c = (s.atDebit t n c k).debitTicket t c (s.metered c n / 10000) := by
  simp only [State.meterChannel, h, Bool.false_eq_true, if_false, modTicket_some hk]
  simp [State.atDebit]

theorem atDebit_bottles (s : State) (t : TicketId) (n : DropCounts) (c : ChannelId) (k : Ticket) (b : ChannelId) :
    (s.atDebit t n c k).bottles b = s.bottles b := bottles_of_supply (by simp [State.atDebit]) b

theorem chargeTicket_bottles (s : State) (t : TicketId) (m : Nat) (b : ChannelId) :
    (s.chargeTicket t m).bottles b = s.bottles b := bottles_of_supply (by simp [State.chargeTicket]) b

theorem put_same {α : Type} {n : Nat} (v : Vector α n) (i : Fin n) : put v i v[i] = v := by
  ext j hj
  simp only [put, Vector.getElem_set]
  split_ifs with h
  · subst h; rfl
  · rfl

/-- R47: three counts of 0 add nothing to the residue. -/
theorem metered_none (s : State) (c : ChannelId) (n : DropCounts) (h : countsNone n = true) :
    s.metered c n = s.costing.residues[c] := by
  simp only [countsNone, Bool.and_eq_true, beq_iff_eq] at h
  obtain ⟨⟨hs, hm⟩, hl⟩ := h
  simp [State.metered, DropVolumes.fired, hs, hm, hl]

/-- R46 to R49: the costing block and the other channels after one channel of a report. -/
theorem meterChannel_costing (s : State) (t : TicketId) (n : DropCounts) (c : ChannelId) (k : Ticket)
    (hk : s.ticket t = some k) (hr : s.costing.residues[c] < 10000) :
    (s.meterChannel t n c).costing =
        { s.costing with residues := put s.costing.residues c (s.metered c n % 10000) } ∧
      ∀ b, b ≠ c → (s.meterChannel t n c).bottles b = s.bottles b := by
  rcases hn : countsNone n with _ | _
  · rw [meterChannel_some s t n c k hk hn]
    refine ⟨by simp [State.atDebit], fun b hb => ?_⟩
    rw [← atDebit_bottles s t n c k b]
    unfold State.debitTicket
    split_ifs
    · rfl
    · exact (chargeTicket_bottles _ _ _ b).trans (debit_bottles _ hb _ _)
  · rw [meterChannel_none s t n c hn, metered_none s c n hn, Nat.mod_eq_of_lt hr, put_same]
    exact ⟨rfl, fun _ _ => rfl⟩

theorem satAdd_zero {bound a : Nat} (h : a ≤ bound) : satAdd bound a 0 = a := by
  rw [satAdd_eq_min]; omega

theorem chargeOf_zero (s : State) (c : ChannelId) : s.chargeOf c 0 = 0 := by
  unfold State.chargeOf
  (repeat' split) <;> simp

theorem charge_acc (k : Ticket) (m : Nat) : (k.charge m).acc = min (2 ^ 64 - 1) (k.acc + m) := satAdd_eq_min _ _ _

theorem charge_saturated (k : Ticket) (m : Nat) :
    (k.charge m).saturated = (k.saturated || decide (2 ^ 64 - 1 < k.acc + m)) := rfl

theorem charge_zero (k : Ticket) (h : k.acc < 2 ^ 64) : k.charge 0 = k := by
  have hacc : satAdd (top 64) k.acc 0 = k.acc := satAdd_zero (by unfold top; omega)
  have hsat : decide (top 64 < k.acc + 0) = false := decide_eq_false (by unfold top; omega)
  rw [Ticket.charge, hacc, hsat, Bool.or_false]

theorem setTicket_self_desk (s : State) (t : TicketId) (k : Ticket) (h : s.ticket t = some k) :
    (s.setTicket t k).desk = s.desk := by
  have : put s.desk.tickets t (some k) = s.desk.tickets := by rw [← h]; exact put_same _ _
  simp [State.setTicket, this]

theorem chargeTicket_desk {u s : State} {t : TicketId} {k : Ticket} (h : u.desk = (s.setTicket t k).desk) (m : Nat) :
    (u.chargeTicket t m).desk = (s.setTicket t (k.charge m)).desk := by
  have hk : u.ticket t = some k := (ticket_of_desk h t).trans (setTicket_ticket_self s t k)
  rw [State.chargeTicket, modTicket_some hk, setTicket_desk h, setTicket_setTicket_desk]

/-- A ticket with the ink and the charge of a debit of d nL at the price m (R51, R74). -/
def Ticket.debitedFrom (k k' : Ticket) (c : ChannelId) (d m : Nat) : Prop :=
  k'.ink = put k.ink c (satAdd (top 32) k.ink[c] d) ∧ k'.acc = (k.charge m).acc ∧
    k'.saturated = (k.charge m).saturated

theorem debitedFrom_zero {k k' : Ticket} {c : ChannelId} (hink : k.ink[c] < 2 ^ 32) (hacc : k.acc < 2 ^ 64)
    (h : k'.ink = k.ink ∧ k'.acc = k.acc ∧ k'.saturated = k.saturated) : k.debitedFrom k' c 0 0 := by
  unfold Ticket.debitedFrom
  rw [satAdd_zero (by unfold top; omega), put_same, charge_zero k hacc]
  exact h

/-- R46 to R52: what one channel of a swath report leaves of the desk, and its ink and its charge, within the ranges
of R22 and R43. -/
theorem meterChannel_ticket (s : State) (t : TicketId) (n : DropCounts) (c : ChannelId) (k : Ticket)
    (hk : s.ticket t = some k) :
    ∃ k', (s.meterChannel t n c).desk = (s.setTicket t k').desk ∧ k' = k.inkedAs k' ∧
      (k.ink[c] < 2 ^ 32 → k.acc < 2 ^ 64 → s.costing.residues[c] < 10000 →
        k.debitedFrom k' c (s.metered c n / 10000) (s.chargeOf c (s.metered c n / 10000))) := by
  rcases hn : countsNone n with _ | _
  · rw [meterChannel_some s t n c k hk hn]
    have hdesk : (s.atDebit t n c k).desk =
      (s.setTicket t { k with countClamped := k.countClamped || countsClamp n }).desk := by simp [State.atDebit]
    unfold State.debitTicket
    split_ifs with hd
    · rw [hd, chargeOf_zero]
      exact ⟨_, hdesk, rfl, fun hink hacc _ => debitedFrom_zero hink hacc ⟨rfl, rfl, rfl⟩⟩
    · generalize s.metered c n / 10000 = d
      have hk₁ : (s.atDebit t n c k).ticket t = some { k with countClamped := k.countClamped || countsClamp n } := by
        rw [ticket_of_desk hdesk]; simp
      obtain ⟨o, ho⟩ := debit_desk (s.atDebit t n c k) c d t _ hk₁
      have hprice : ((s.atDebit t n c k).debit c d (some t)).2 = s.chargeOf c d := by
        rw [debit_price, chargeOf_congr (atDebit_bottles s t n c k c)]
      have hend := chargeTicket_desk ((ho.trans (setTicket_desk hdesk t _)).trans (setTicket_setTicket_desk s t _ _))
        (s.chargeOf c d)
      rw [← hprice] at hend
      exact ⟨_, hend, rfl, fun _ _ _ => by rw [← hprice]; exact ⟨rfl, rfl, rfl⟩⟩
  · rw [meterChannel_none s t n c hn, metered_none s c n hn]
    refine ⟨k, (setTicket_self_desk s t k hk).symm, rfl, fun hink hacc hr => ?_⟩
    rw [Nat.div_eq_of_lt hr, chargeOf_zero]
    exact debitedFrom_zero hink hacc ⟨rfl, rfl, rfl⟩

/-! ## The channels of a report -/

/-- The metering of the channels of a list, in its order. -/
def State.meterAll (s : State) (t : TicketId) (counts : Vector DropCounts 12) (cs : List ChannelId) : State :=
  cs.foldl (fun s c => s.meterChannel t counts[c] c) s

theorem meterSwath_eq (s : State) (t : TicketId) (counts : Vector DropCounts 12) :
    s.meterSwath t counts = s.meterAll t counts (List.finRange 12) := rfl

theorem meterAll_cons (s : State) (t : TicketId) (counts : Vector DropCounts 12) (c : ChannelId) (cs : List ChannelId) :
    s.meterAll t counts (c :: cs) = (s.meterChannel t counts[c] c).meterAll t counts cs := rfl

theorem metered_div (s : State) (counts : Vector DropCounts 12) (c : ChannelId) :
    s.metered c counts[c] / 10000 = s.debitOf counts c := by
  simp only [State.metered, DropVolumes.fired, countLimit, State.debitOf, min_comm]

theorem charge_charge (k k' : Ticket) (m n : Nat) (ha : k'.acc = (k.charge m).acc)
    (hs : k'.saturated = (k.charge m).saturated) :
    (k'.charge n).acc = (k.charge (m + n)).acc ∧ (k'.charge n).saturated = (k.charge (m + n)).saturated := by
  simp only [Ticket.charge, satAdd_eq_min] at *
  refine ⟨by omega, ?_⟩
  rw [hs, ha, Bool.or_assoc, ← Bool.decide_or]
  congr 2
  apply propext
  omega

/-- R46: the sum of what the debits of a list of channels are charged. -/
def State.chargesOf (s : State) (counts : Vector DropCounts 12) (cs : List ChannelId) : Nat :=
  (cs.map fun c => s.chargeOf c (s.debitOf counts c)).sum

/-- R46: a report writes its ticket's ink, charge and marks, and no other ticket. -/
theorem meterAll_ticket (cs : List ChannelId) (s : State) (t : TicketId) (counts : Vector DropCounts 12) (k : Ticket)
    (hk : s.ticket t = some k) :
    ∃ k', (s.meterAll t counts cs).desk = (s.setTicket t k').desk ∧ k' = k.inkedAs k' := by
  induction cs generalizing s k with
  | nil => exact ⟨k, (setTicket_self_desk s t k hk).symm, rfl⟩
  | cons c cs ih =>
    obtain ⟨k₁, hd₁, hk₁, -⟩ := meterChannel_ticket s t counts[c] c k hk
    obtain ⟨k₂, hd₂, hk₂⟩ := ih (s.meterChannel t counts[c] c) k₁
      ((ticket_of_desk hd₁ t).trans (setTicket_ticket_self _ _ _))
    refine ⟨k₂, ?_, ?_⟩
    · rw [meterAll_cons, hd₂, setTicket_desk hd₁, setTicket_setTicket_desk]
    · rw [hk₂, hk₁]; rfl

/-- R46 to R51: from `s` to `v` the counts of the channels `cs` were metered to ticket `t`, which went from `k` to
`k'`. -/
structure State.metersTo (s v : State) (t : TicketId) (counts : Vector DropCounts 12) (cs : List ChannelId)
    (k k' : Ticket) : Prop where
  desk : v.desk = (s.setTicket t k').desk
  same : k' = k.inkedAs k'
  ink : ∀ c : ChannelId, k'.ink[c] = if c ∈ cs then satAdd (top 32) k.ink[c] (s.debitOf counts c) else k.ink[c]
  acc : k'.acc = (k.charge (s.chargesOf counts cs)).acc
  saturated : k'.saturated = (k.charge (s.chargesOf counts cs)).saturated
  residues : ∀ c : ChannelId, v.costing.residues[c] =
    if c ∈ cs then s.metered c counts[c] % 10000 else s.costing.residues[c]

theorem meterAll_metersTo (cs : List ChannelId) (s : State) (t : TicketId) (counts : Vector DropCounts 12) (k : Ticket)
    (hk : s.ticket t = some k) (hcs : cs.Nodup) (hr : s.chargeable k) :
    ∃ k', s.metersTo (s.meterAll t counts cs) t counts cs k k' := by
  induction cs generalizing s k with
  | nil =>
    obtain ⟨-, hacc⟩ := hr
    exact ⟨k, (setTicket_self_desk s t k hk).symm, rfl, fun c => by simp,
      by rw [State.chargesOf]; simp [charge_zero k hacc],
      by rw [State.chargesOf]; simp [charge_zero k hacc], fun c => by simp [State.meterAll]⟩
  | cons c cs ih =>
    obtain ⟨hc, hcs⟩ := List.nodup_cons.mp hcs
    obtain ⟨hinks, hacc⟩ := hr
    obtain ⟨k₁, hd₁, hk₁, hdeb⟩ := meterChannel_ticket s t counts[c] c k hk
    obtain ⟨hcost, hbottles⟩ := meterChannel_costing s t counts[c] c k hk (hinks c).2
    obtain ⟨hink₁, hacc₁, hsat₁⟩ := hdeb (hinks c).1 hacc (hinks c).2
    rw [metered_div] at hink₁ hacc₁ hsat₁
    have hink : ∀ b : ChannelId, k₁.ink[b] =
        if c = b then satAdd (top 32) k.ink[c] (s.debitOf counts c) else k.ink[b] := fun b => by
      rw [hink₁]; exact put_get _ _ _ _
    rw [meterAll_cons]
    generalize s.meterChannel t counts[c] c = v at hd₁ hcost hbottles
    have hres : ∀ b : ChannelId, v.costing.residues[b] =
        if c = b then s.metered c counts[c] % 10000 else s.costing.residues[b] := fun b => by
      rw [hcost]; exact put_get _ _ _ _
    have hmetered : ∀ b n, b ≠ c → v.metered b n = s.metered b n := fun b n hb => by
      rw [State.metered, hres, if_neg hb.symm, hcost]; rfl
    have hdebit : ∀ b, b ≠ c → v.debitOf counts b = s.debitOf counts b := fun b hb => by
      rw [← metered_div, hmetered b _ hb, metered_div]
    have hcharges : v.chargesOf counts cs = s.chargesOf counts cs := by
      refine congrArg List.sum (List.map_congr_left fun b hb => ?_)
      have hbc : b ≠ c := fun h => hc (h ▸ hb)
      rw [hdebit b hbc, chargeOf_congr (hbottles b hbc)]
    have hable : v.chargeable k₁ := by
      refine ⟨fun b => ⟨?_, ?_⟩, ?_⟩
      · rw [hink b]
        split_ifs
        · rw [satAdd_eq_min, top]; omega
        · exact (hinks b).1
      · rw [hres b]
        split_ifs
        · omega
        · exact (hinks b).2
      · rw [hacc₁, charge_acc]; omega
    obtain ⟨k₂, hm⟩ := ih v k₁ ((ticket_of_desk hd₁ t).trans (setTicket_ticket_self _ _ _)) hcs hable
    refine ⟨k₂, by rw [hm.desk, setTicket_desk hd₁, setTicket_setTicket_desk], by rw [hm.same, hk₁]; rfl,
      fun b => ?_, ?_, ?_,
      fun b => ?_⟩
    · rw [hm.ink b, hink b]
      by_cases hb : c = b
      · subst hb; simp [hc]
      · simp [hb, Ne.symm hb, hdebit b (Ne.symm hb)]
    · rw [hm.acc, hcharges]
      exact (charge_charge k k₁ _ _ hacc₁ hsat₁).1
    · rw [hm.saturated, hcharges]
      exact (charge_charge k k₁ _ _ hacc₁ hsat₁).2
    · rw [hm.residues b, hres b]
      by_cases hb : c = b
      · subst hb; simp [hc]
      · simp [hb, Ne.symm hb, hmetered b _ (Ne.symm hb)]

/-- R46 to R52: what a swath report's metering leaves, within the ranges of R22 and R43. -/
theorem meterSwath_metersTo (s : State) (t : TicketId) (counts : Vector DropCounts 12) (k : Ticket)
    (hk : s.ticket t = some k) (hr : s.chargeable k) :
    ∃ k', s.metersTo (s.meterSwath t counts) t counts (List.finRange 12) k k' :=
  meterAll_metersTo _ s t counts k hk (List.nodup_finRange 12) hr

theorem chargesOf_all (s : State) (counts : Vector DropCounts 12) :
    s.chargesOf counts (List.finRange 12) = s.swathCharge counts := rfl

end Sys2Proof.Machine
end

section
/-! PROOF. A fed length (R28, R53, R107, R115, R116). -/

namespace Sys2Proof.Machine

open Sys2Proof

/-! ## The stop list's positions -/

theorem enterStop_positions (pos : Nat) (a : StopAction) (es : List StopEntry) :
    ∀ e ∈ enterStop pos a es, e.position = pos ∨ ∃ e' ∈ es, e'.position = e.position := by
  induction es with
  | nil => simp [enterStop]
  | cons e' es ih =>
    intro e he
    unfold enterStop at he
    split_ifs at he with h1 h2
    · rcases List.mem_cons.mp he with rfl | he
      · exact .inl h1.symm
      · exact .inr ⟨e, by simp [he], rfl⟩
    · rcases List.mem_cons.mp he with rfl | he
      · exact .inl rfl
      · exact .inr ⟨e, he, rfl⟩
    · rcases List.mem_cons.mp he with rfl | he
      · exact .inr ⟨e, by simp, rfl⟩
      · exact (ih e he).imp_right fun ⟨e₁, he₁, h⟩ => ⟨e₁, by simp [he₁], h⟩

theorem enterAll_positions (acts : List (Nat × StopAction)) (es : List StopEntry) (p : Nat)
    (hacts : ∀ a ∈ acts, p ≤ a.1) (hes : ∀ e ∈ es, p ≤ e.position) :
    ∀ e ∈ acts.foldl (fun es a => enterStop a.1 a.2 es) es, p ≤ e.position := by
  induction acts generalizing es with
  | nil => exact hes
  | cons a acts ih =>
    refine ih (enterStop a.1 a.2 es) (fun b hb => hacts b (by simp [hb])) fun e he => ?_
    rcases enterStop_positions a.1 a.2 es e he with h | ⟨e', he', h⟩
    · exact h ▸ hacts a (by simp)
    · exact h ▸ hes e' he'

/-- R114: a ticket's actions stand beyond its start. -/
theorem stopActions_mem (k : Ticket) (t : TicketId) (p : Nat) (oldEnd : Int) (w : Bool) :
    ∀ a ∈ k.stopActions t p oldEnd w, p ≤ a.1 ∧ a.2.ticket = t := by
  intro a ha
  unfold Ticket.stopActions at ha
  simp only [List.mem_append, List.mem_ite_nil_right, List.mem_singleton] at ha
  rcases ha with ((⟨-, rfl⟩ | ⟨-, rfl⟩) | ⟨-, rfl⟩) | rfl <;> exact ⟨by dsimp only; omega, rfl⟩

/-! ## The start test -/

/-- R26, R27: what a start test does to a ticket. -/
theorem startTest_ticket (s : State) (y : TicketId) :
    s.startTest.ticket y = s.ticket y ∨ y ∈ s.desk.admitted ∧ ∃ k a b, s.ticket y = some k ∧
      s.startTest.ticket y = some { k with state := .printing, start := a, oldEnd := b } := by
  unfold State.startTest
  split
  · exact .inl rfl
  · rename_i x xs ha
    split
    · rcases hk : s.ticket x with _ | k
      · rw [startTicket_none s x hk]; exact .inl rfl
      · rw [startTicket_eq s x k hk]
        by_cases hxy : x = y
        · subst hxy
          exact .inr ⟨by simp [ha], k, some s.media.position, s.media.pathEnd, hk, by
            simp [State.ticket, Desk.start, Ticket.startedAt]⟩
        · exact .inl (by simpa [State.ticket, Desk.start] using put_ne _ _ hxy)
    · exact .inl rfl

/-- R114: what a start places stands beyond P. -/
theorem startTest_stops (s : State) (h : ∀ e ∈ s.media.stops, s.media.position ≤ e.position) :
    ∀ e ∈ s.startTest.media.stops, s.media.position ≤ e.position := by
  unfold State.startTest
  split
  · exact h
  · rename_i x xs ha
    split
    · rcases hk : s.ticket x with _ | k
      · rw [startTicket_none s x hk]; exact h
      · rw [startTicket_eq s x k hk]
        exact enterAll_positions _ _ _ (fun a ha => (stopActions_mem _ _ _ _ _ a ha).1) h
    · exact h

/-! ## The roll -/

theorem feedRoll_media (s : State) (f : Nat) :
    (s.feedRoll f).media = { s.media with rolls := (s.feedRoll f).media.rolls } := by
  unfold State.feedRoll
  split
  · rfl
  · split
    · rfl
    · simp [State.setRoll]

/-- R107: the ACTIVE roll's remaining length falls by what was fed. -/
theorem feedRoll_active (s : State) (f : Nat) (r : RollId) (ρ : Roll) (hr : s.roll r = some ρ) (ha : ρ.state = .active)
    (hone : ∀ r' ρ', s.roll r' = some ρ' → ρ'.state = .active → r' = r) :
    (s.feedRoll f).roll r = some { ρ with remaining := ρ.remaining - f } := by
  simp only [State.feedRoll, activeRoll_eq s r ρ hr ha hone, hr]
  unfold State.raiseIf
  split <;> exact setRoll_roll_self _ _ _

/-- R53: a fed length changes no roll's width and no roll's price. -/
theorem feedRoll_price (s : State) (f : Nat) (r : RollId) : (s.feedRoll f).mediaPrice r = s.mediaPrice r := by
  unfold State.feedRoll
  rcases s.activeRoll with _ | a
  · rfl
  · rcases hx : s.roll a with _ | x
    · simp only [hx]
    · have hp : (s.setRoll a (some { x with remaining := x.remaining - f })).mediaPrice r = s.mediaPrice r := by
        unfold State.mediaPrice
        rw [setRoll_roll]
        split_ifs with h
        · subst h; simp [hx]
        · rfl
      simp only [hx, State.raiseIf]
      split_ifs <;> exact hp

/-! ## A ticket's credit -/

/-- A ticket credited a fed length at a price per mm (R53, R116). -/
def Ticket.credited (k : Ticket) (f price : Nat) : Ticket :=
  { k with fed := k.fed + min f (k.l - k.fed) }.charge (min f (k.l - k.fed) * price)

theorem creditTicket_desk (s : State) (t : TicketId) (f : Nat) (k : Ticket) (hk : s.ticket t = some k) :
    (s.creditTicket t f).desk = (s.setTicket t (k.credited f (s.mediaPrice k.roll))).desk := by
  simp only [State.creditTicket, hk]
  exact chargeTicket_desk rfl _

/-! ## Re-placing a start and reaching a stop -/

/-- A ticket without what a placement and a handed read may write. -/
def Ticket.unplaced (k : Ticket) : Ticket := { k with start := none, oldEnd := 0, verdict := .none }

/-- What the re-placing of a start and the reaching of a stop leave: the media path but for its end and its stops, which
stand no nearer than P, the queues, the engine, the run; of the tickets their placement and verdicts change. -/
structure State.stopsBy (s v : State) : Prop where
  same : s.sameBut [.desk, .media, .cutter, .colour, .notices] v
  media : v.media = { s.media with pathEnd := v.media.pathEnd, stops := v.media.stops }
  desk : v.desk = { s.desk with tickets := v.desk.tickets }
  stops : (∀ e ∈ s.media.stops, s.media.position ≤ e.position) → ∀ e ∈ v.media.stops, s.media.position ≤ e.position
  tickets : ∀ y, (v.ticket y).map Ticket.unplaced = (s.ticket y).map Ticket.unplaced

theorem State.stopsBy.refl (s : State) : s.stopsBy s where
  same := by simp [sameBut_iff]
  media := rfl
  desk := rfl
  stops h := h
  tickets _ := rfl

theorem State.stopsBy.trans {s u v : State} (h : s.stopsBy u) (h' : u.stopsBy v) : s.stopsBy v where
  same := sameBut_weaken (sameBut_trans h.same h'.same) (by simp)
  media := by rw [h'.media, h.media]
  desk := by rw [h'.desk, h.desk]
  stops hs := by
    have hp : u.media.position = s.media.position := by rw [h.media]
    have := h'.stops (by rw [hp]; exact h.stops hs)
    rwa [hp] at this
  tickets y := (h'.tickets y).trans (h.tickets y)

/-- R115: the stop list without a ticket's actions. -/
def State.unstarted (s : State) (t : TicketId) : State :=
  s.withMedia { s.media with stops := withdrawStops (fun a => a.ticket == t) s.media.stops }

theorem unstarted_ticket (s : State) (t y : TicketId) : (s.unstarted t).ticket y = s.ticket y := rfl

theorem unstarted_stops (s : State) (t : TicketId) :
    (s.unstarted t).media.stops = withdrawStops (fun a => a.ticket == t) s.media.stops := rfl

/-- R115: the re-placed ticket is a started one that was not served. -/
theorem replaceStart_cases (s : State) (served : Option TicketId) (f : Nat) :
    s.replaceStart served f = s ∨ ∃ t k, some t ≠ served ∧ s.ticket t = some k ∧ 0 < f ∧
      (k.state = .printing ∨ k.state = .cancelling) ∧ k.fed = 0 ∧ s.replaceStart served f =
        (s.unstarted t).placeTicket t k.oldEnd := by
  unfold State.replaceStart
  split_ifs with hf
  · exact .inl rfl
  · split
    · exact .inl rfl
    · rename_i t ht
      rcases hk : s.ticket t with _ | k
      · exact .inl rfl
      · have h := List.find?_some ht
        simp only [hk, Bool.and_eq_true, bne_iff_ne, ne_eq, Bool.or_eq_true, beq_iff_eq] at h
        exact .inr ⟨t, k, h.1, hk, by omega, h.2.1, h.2.2, rfl⟩

theorem replaceStart_stopsBy (s : State) (served : Option TicketId) (f : Nat) :
    s.stopsBy (s.replaceStart served f) := by
  rcases replaceStart_cases s served f with h | ⟨t, k, -, hk, -, -, -, h⟩ <;> rw [h]
  · exact .refl s
  · rw [placeTicket_eq (s.unstarted t) t k.oldEnd k hk]
    refine ⟨by simp [sameBut_iff, State.unstarted], rfl, rfl, fun hs => ?_, fun y => ?_⟩
    · refine enterAll_positions _ _ _ (fun a ha => (stopActions_mem _ _ _ _ _ a ha).1) fun e he => ?_
      obtain ⟨e', he', hp⟩ := withdrawStops_positions _ _ e he
      exact hp ▸ hs e' he'
    · by_cases hy : t = y
      · subst hy; simp [hk, Ticket.unplaced]
      · simp [setTicket_ticket_ne _ _ hy, unstarted_ticket]

/-- R115: the ticket an operation served is not re-placed. -/
theorem replaceStart_served (s : State) (t : TicketId) (f : Nat) :
    (s.replaceStart (some t) f).ticket t = s.ticket t := by
  rcases replaceStart_cases s (some t) f with h | ⟨y, k, hy, hk, -, -, -, h⟩ <;> rw [h]
  rw [placeTicket_eq (s.unstarted y) y k.oldEnd k hk]
  exact setTicket_ticket_ne _ _ fun h => hy (by rw [h])

/-- R114: what is re-placed is of a ticket that was not served. -/
theorem replaceStart_placed (s : State) (t : TicketId) (f : Nat) (hs : ∀ p ∈ s.media.placed, p.2.ticket ≠ t) :
    ∀ p ∈ (s.replaceStart (some t) f).media.placed, p.2.ticket ≠ t := by
  rcases replaceStart_cases s (some t) f with h | ⟨y, k, hy, hk, -, -, -, h⟩ <;> rw [h]
  · exact hs
  · rw [placeTicket_eq (s.unstarted y) y k.oldEnd k hk]
    intro p hp
    rcases List.mem_append.mp ((placedOf_enterAll _ _).subset hp) with hp | hp
    · rw [unstarted_stops, placedOf_withdrawStops] at hp
      exact hs p (List.mem_of_mem_filter hp)
    · rw [(stopActions_mem _ _ _ _ _ p hp).2]
      exact fun h => hy (by rw [h])

/-- R115: nothing is re-placed where every started ticket has fed. -/
theorem replaceStart_fed (s : State) (served : Option TicketId) (f : Nat)
    (h : ∀ y k, some y ≠ served → s.ticket y = some k → k.state = .printing ∨ k.state = .cancelling → k.fed ≠ 0) :
    s.replaceStart served f = s := by
  rcases replaceStart_cases s served f with he | ⟨t, k, ht, hk, -, hst, hfed, -⟩
  · exact he
  · exact absurd hfed (h t k ht hk hst)

theorem reachStop_cases (s : State) : s.reachStop = s ∨ ∃ e es, s.media.stops = e :: es ∧
    e.position = s.media.position ∧ s.reachStop =
      (s.withMedia { s.media with stops := e.handed :: es }).handAll (e.actions.filter (!·.handed)) := by
  rcases hs : s.media.stops with _ | ⟨e, es⟩
  · exact .inl (reachStop_short s (by simp [hs]))
  · by_cases he : e.position = s.media.position
    · exact .inr ⟨e, es, rfl, he, reachStop_at s e es hs he⟩
    · refine .inl (reachStop_short s fun e' es' h => ?_)
      rw [hs] at h
      cases h
      exact he

theorem reachStop_stopsBy (s : State) : s.stopsBy s.reachStop := by
  rcases reachStop_cases s with h | ⟨e, es, hs, he, h⟩ <;> rw [h]
  · exact .refl s
  · have hh := handAll_over (e.actions.filter (!·.handed)) (s.withMedia { s.media with stops := e.handed :: es })
    have hm : s.sameBut [.media] (s.withMedia { s.media with stops := e.handed :: es }) := by simp [sameBut_iff]
    refine ⟨sameBut_weaken (sameBut_trans hm hh.same) (by simp), by rw [hh.media]; rfl, hh.desk, fun hp x hx => ?_,
      fun y => ?_⟩
    · obtain ⟨x', hx', hpos⟩ := hh.stops x hx
      rw [← hpos]
      rcases List.mem_cons.mp hx' with rfl | hx'
      · exact he.ge
      · exact hp x' (by simp [hs, hx'])
    · rcases hh.ticket y with h' | ⟨-, h'⟩ <;> rw [h']
      · rfl
      · rw [Option.map_map]; rfl

/-- R166: a stop reached writes no more of a ticket than its verdict, and that only where a read of it is placed. -/
theorem reachStop_ticket (s : State) (y : TicketId) :
    s.reachStop.ticket y = s.ticket y ∨ (∃ p ∈ s.media.placed, p.2.ticket = y) ∧
      s.reachStop.ticket y = (s.ticket y).map fun k => { k with verdict := .unverified } := by
  rcases reachStop_cases s with h | ⟨e, es, hs, he, h⟩ <;> rw [h]
  · exact .inl rfl
  · have hh := handAll_over (e.actions.filter (!·.handed)) (s.withMedia { s.media with stops := e.handed :: es })
    refine (hh.ticket y).imp_right fun ⟨⟨a, ha, _, hay⟩, h'⟩ => ⟨⟨(e.position, a), ?_, hay⟩, h'⟩
    rw [placed_eq, hs, placedOf_cons]
    exact List.mem_append_left _ (List.mem_map.mpr ⟨a, List.mem_of_mem_filter ha, rfl⟩)

end Sys2Proof.Machine
end

section
/-! PROOF. What a report's fed length comes to (R28, R116), and what a swath's report leaves (R133). -/

namespace Sys2Proof.Machine

open Sys2Proof

/-! ## The length fed and credited -/

/-- R116: the media moved and, where an operation served a ticket, the length credited to it. -/
def State.fedTo (s : State) (served : Option TicketId) (f : Nat) : State :=
  match served with
  | some t => ((s.withMedia { s.media with position := s.media.position + f }).feedRoll f).creditTicket t f
  | none => (s.withMedia { s.media with position := s.media.position + f }).feedRoll f

theorem takeFed_eq (s : State) (served : Option TicketId) (f : Nat) :
    s.takeFed served f = (((s.fedTo served f).replaceStart served f).reachStop).fedReachesL served f := by
  cases served <;> rfl

theorem fedTo_same (s : State) (served : Option TicketId) (f : Nat) :
    s.sameBut [.desk, .media, .notices] (s.fedTo served f) := by
  cases served <;> simp [State.fedTo, sameBut_iff]

theorem fedTo_media (s : State) (served : Option TicketId) (f : Nat) :
    (s.fedTo served f).media =
      { s.media with position := s.media.position + f, rolls := (s.fedTo served f).media.rolls } := by
  have h := feedRoll_media (s.withMedia { s.media with position := s.media.position + f }) f
  cases served with
  | none => exact h
  | some t => simpa [State.fedTo] using h

theorem fedTo_active (s : State) (served : Option TicketId) (f : Nat) (r : RollId) (ρ : Roll) (hr : s.roll r = some ρ)
    (ha : ρ.state = .active) (hone : ∀ r' ρ', s.roll r' = some ρ' → ρ'.state = .active → r' = r) :
    (s.fedTo served f).roll r = some { ρ with remaining := ρ.remaining - f } := by
  have h := feedRoll_active (s.withMedia { s.media with position := s.media.position + f }) f r ρ hr ha hone
  cases served with
  | none => exact h
  | some t => rw [← h]; simp [State.roll, State.fedTo]

theorem fedTo_none_desk (s : State) (f : Nat) : (s.fedTo none f).desk = s.desk := by
  simp [State.fedTo]

theorem fedTo_some_desk (s : State) (t : TicketId) (f : Nat) (k : Ticket) (hk : s.ticket t = some k) :
    (s.fedTo (some t) f).desk = (s.setTicket t (k.credited f (s.mediaPrice k.roll))).desk := by
  have hd : ((s.withMedia { s.media with position := s.media.position + f }).feedRoll f).desk = s.desk := by simp
  unfold State.fedTo
  dsimp only
  rw [creditTicket_desk _ t f k ((ticket_of_desk hd t).trans hk), setTicket_desk hd, feedRoll_price]
  rfl

/-! ## A ticket that has fed its L -/

/-- A ticket once its credited length is judged (R28). -/
def Ticket.judged (k : Ticket) (f : Nat) : Ticket :=
  if k.fed = k.l ∧ 0 < f ∧ k.state = .printing then { k with state := .travelling, pauseTimer := none } else k

theorem fedReachesL_short (s : State) (t : TicketId) (f : Nat) (k : Ticket) (hk : s.ticket t = some k)
    (h : k.fed ≠ k.l) : s.fedReachesL (some t) f = s := by
  simp [State.fedReachesL, hk, h]

theorem drainEject_media (s : State) : s.drainEject.media = { s.media with eject := s.drainEject.media.eject } := by
  unfold State.drainEject
  split_ifs <;> rfl

/-- What the judging of a ticket's length leaves of the other tickets and of the media: a start test may start a
ticket of the admitted queue (R26, R28). -/
structure State.wentOn (s v : State) (t : TicketId) : Prop where
  same : s.sameBut [.desk, .media] v
  position : v.media.position = s.media.position
  rolls : v.media.rolls = s.media.rolls
  stops : (∀ e ∈ s.media.stops, s.media.position ≤ e.position) → ∀ e ∈ v.media.stops, s.media.position ≤ e.position
  others : ∀ y, y ≠ t → v.ticket y = s.ticket y ∨ y ∈ s.desk.admitted ∧ ∃ j a b, s.ticket y = some j ∧
    v.ticket y = some { j with state := .printing, start := a, oldEnd := b }

theorem State.wentOn.refl (s : State) (t : TicketId) : s.wentOn s t where
  same := by simp [sameBut_iff]
  position := rfl
  rolls := rfl
  stops h := h
  others _ _ := .inl rfl

/-- R28: the start test and the drain's eject after a ticket was judged. -/
theorem startTest_wentOn (s u : State) (t : TicketId) (hs : s.sameBut [.desk] u)
    (hadm : u.desk.admitted = s.desk.admitted) (ht : ∀ y, y ≠ t → u.ticket y = s.ticket y) :
    s.wentOn u.drainEject.startTest t := by
  have hmedia := hs.2 .media (by simp)
  have hd : u.drainEject.media = { s.media with eject := u.drainEject.media.eject } := by
    rw [drainEject_media, show u.media = s.media from hmedia]
  have hm := startTest_media u.drainEject
  have hdesk : u.drainEject.desk = u.desk := by simp
  refine ⟨?_, by rw [hm, hd], by rw [hm, hd], fun h => ?_, fun y hy => ?_⟩
  · have hd : u.sameBut [.media] u.drainEject := by simp [sameBut_iff]
    have hst : u.drainEject.sameBut [.desk, .media] u.drainEject.startTest := by simp [sameBut_iff]
    exact sameBut_weaken (sameBut_trans hs (sameBut_trans hd hst)) (by simp)
  · have := startTest_stops u.drainEject
    rw [hd] at this
    exact this h
  · have hy' : u.drainEject.ticket y = s.ticket y := (ticket_of_desk hdesk y).trans (ht y hy)
    rcases startTest_ticket u.drainEject y with h | ⟨ha, j, a, b, hj, h⟩
    · exact .inl (h.trans hy')
    · exact .inr ⟨by rwa [hdesk, hadm] at ha, j, a, b, hy' ▸ hj, h⟩

/-- R28: what is left of the media and the tickets when the length credited to a ticket outside the admitted queue is
judged. -/
theorem fedReachesL_over (s : State) (t : TicketId) (f : Nat) (k : Ticket) (hk : s.ticket t = some k)
    (hadm : t ∉ s.desk.admitted) :
    s.wentOn (s.fedReachesL (some t) f) t ∧ (s.fedReachesL (some t) f).ticket t = some (k.judged f) := by
  have keep : ∀ u : State, u.desk.admitted = s.desk.admitted → u.drainEject.startTest.ticket t = u.ticket t :=
    fun u hu => ((startTest_desk u.drainEject).2 t (by simpa [hu] using hadm)).trans (ticket_of_desk (by simp) t)
  simp only [State.fedReachesL, hk]
  by_cases hreach : k.fed = k.l ∧ 0 < f
  · by_cases hp : k.state = .printing
    · have hu := startTest_wentOn s (s.setTicket t { k with state := .travelling, pauseTimer := none }) t
        (by simp [sameBut_iff]) (by simp) fun y hy => setTicket_ticket_ne _ _ hy.symm
      rw [if_pos (by simp [hreach, hp]), if_pos hp]
      refine ⟨hu, ?_⟩
      rw [keep _ (by simp), setTicket_ticket_self, Ticket.judged, if_pos ⟨hreach.1, hreach.2, hp⟩]
    · have hj : k.judged f = k := if_neg fun h => hp h.2.2
      rw [hj]
      split_ifs
      · exact ⟨startTest_wentOn s s t (by simp [sameBut_iff]) rfl fun _ _ => rfl, (keep s rfl).trans hk⟩
      · exact ⟨.refl s t, hk⟩
  · have hj : k.judged f = k := if_neg fun h => hreach ⟨h.1, h.2.1⟩
    rw [hj, if_neg]
    · exact ⟨.refl s t, hk⟩
    · simp only [Bool.and_eq_true, decide_eq_true_eq]
      exact fun h => hreach h.1

/-! ## The fed length whole -/

/-- What a fed length leaves of the media and of the blocks (R107, R116). -/
structure State.tookFed (s v : State) (f : Nat) : Prop where
  same : s.sameBut [.desk, .media, .cutter, .colour, .notices] v
  position : v.media.position = s.media.position + f
  stops : (∀ e ∈ s.media.stops, s.media.position + f ≤ e.position) →
    ∀ e ∈ v.media.stops, s.media.position + f ≤ e.position
  active : ∀ r ρ, s.roll r = some ρ → ρ.state = .active → (∀ r' ρ', s.roll r' = some ρ' → ρ'.state = .active → r' = r) →
    v.roll r = some { ρ with remaining := ρ.remaining - f }

/-- The state in which the length credited is judged: the start re-placed, the stop reached. -/
def State.stopped (s : State) (served : Option TicketId) (f : Nat) : State :=
  ((s.fedTo served f).replaceStart served f).reachStop

theorem stopped_stopsBy (s : State) (served : Option TicketId) (f : Nat) :
    (s.fedTo served f).stopsBy (s.stopped served f) :=
  (replaceStart_stopsBy _ served f).trans (reachStop_stopsBy _)

theorem stopped_tookFed (s : State) (served : Option TicketId) (f : Nat) : s.tookFed (s.stopped served f) f := by
  have h := stopped_stopsBy s served f
  have hm := fedTo_media s served f
  have hp : (s.stopped served f).media.position = s.media.position + f := by rw [h.media, hm]
  have hfp : (s.fedTo served f).media.position = s.media.position + f := by rw [hm]
  refine ⟨sameBut_weaken (sameBut_trans (fedTo_same s served f) h.same) (by simp), hp, fun hs => ?_,
    fun r ρ hr ha hone => ?_⟩
  · have := h.stops (by rw [hm]; exact hs)
    rwa [hfp] at this
  · rw [← fedTo_active s served f r ρ hr ha hone, State.roll, h.media]
    rfl

theorem takeFed_none (s : State) (f : Nat) : s.takeFed none f = s.stopped none f := takeFed_eq s none f

theorem takeFed_some (s : State) (t : TicketId) (f : Nat) :
    s.takeFed (some t) f = (s.stopped (some t) f).fedReachesL (some t) f := takeFed_eq s (some t) f

theorem stopped_admitted (s : State) (t : TicketId) (f : Nat) (k : Ticket) (hk : s.ticket t = some k) :
    (s.stopped (some t) f).desk.admitted = s.desk.admitted := by
  rw [(stopped_stopsBy s (some t) f).desk, fedTo_some_desk s t f k hk]
  simp

/-- A ticket credited a fed length at its roll's price. -/
def State.creditOf (s : State) (k : Ticket) (f : Nat) : Ticket := k.credited f (s.mediaPrice k.roll)

/-- R53, R166: the ticket an operation served before its length is judged: credited, its verdict perhaps written where
an action of it was placed. -/
theorem stopped_ticket (s : State) (t : TicketId) (f : Nat) (k : Ticket) (hk : s.ticket t = some k) :
    ∃ verdict, (s.stopped (some t) f).ticket t = some { s.creditOf k f with verdict := verdict } ∧
      ((∀ p ∈ s.media.placed, p.2.ticket ≠ t) → verdict = k.verdict) := by
  have hcredit : (s.fedTo (some t) f).ticket t = some (s.creditOf k f) :=
    (ticket_of_desk (fedTo_some_desk s t f k hk) t).trans (setTicket_ticket_self _ _ _)
  have hserved := (replaceStart_served (s.fedTo (some t) f) t f).trans hcredit
  have hplaced : (∀ p ∈ s.media.placed, p.2.ticket ≠ t) → ∀ p ∈ (s.fedTo (some t) f).media.placed, p.2.ticket ≠ t := by
    rw [fedTo_media]; exact id
  rcases reachStop_ticket ((s.fedTo (some t) f).replaceStart (some t) f) t with h | ⟨⟨p, hp, hpt⟩, h⟩
  · exact ⟨k.verdict, h.trans hserved, fun _ => rfl⟩
  · exact ⟨.unverified, by rw [State.stopped, h, hserved]; rfl,
      fun hs => absurd hpt (replaceStart_placed _ t f (hplaced hs) p hp)⟩

/-- R26, R115: the tickets an operation did not serve, before its length is judged. -/
theorem stopped_others (s : State) (served : Option TicketId) (f : Nat) (y : TicketId) (hy : some y ≠ served) :
    ((s.stopped served f).ticket y).map Ticket.unplaced = (s.ticket y).map Ticket.unplaced := by
  rw [(stopped_stopsBy s served f).tickets y]
  cases served with
  | none => rw [ticket_of_desk (fedTo_none_desk s f)]
  | some t =>
    have hyt : t ≠ y := fun h => hy (by rw [h])
    rcases hk : s.ticket t with _ | k
    · have hd : ((s.withMedia { s.media with position := s.media.position + f }).feedRoll f).desk = s.desk := by simp
      have : s.fedTo (some t) f = (s.withMedia { s.media with position := s.media.position + f }).feedRoll f := by
        simp only [State.fedTo, State.creditTicket, ticket_of_desk hd, hk]
      rw [this, ticket_of_desk hd]
    · rw [ticket_of_desk (fedTo_some_desk s t f k hk), setTicket_ticket_ne _ _ hyt]

/-- R28, R116: what a fed length leaves, where it served a ticket outside the admitted queue. -/
theorem takeFed_served (s : State) (t : TicketId) (f : Nat) (k : Ticket) (hk : s.ticket t = some k)
    (hadm : t ∉ s.desk.admitted) :
    s.tookFed (s.takeFed (some t) f) f ∧
      (∃ verdict,
        (s.takeFed (some t) f).ticket t = some (({ s.creditOf k f with verdict := verdict } : Ticket).judged f) ∧
        ((∀ p ∈ s.media.placed, p.2.ticket ≠ t) → verdict = k.verdict)) ∧
      ∀ y, y ≠ t → ((s.takeFed (some t) f).ticket y).map Ticket.unplaced = (s.ticket y).map Ticket.unplaced ∨
        y ∈ s.desk.admitted ∧ ((s.takeFed (some t) f).ticket y).map Ticket.unplaced =
          (s.ticket y).map fun j => { j.unplaced with state := .printing } := by
  have hs := stopped_tookFed s (some t) f
  obtain ⟨verdict, hv, hverdict⟩ := stopped_ticket s t f k hk
  have had := stopped_admitted s t f k hk
  obtain ⟨hwent, hjudged⟩ := fedReachesL_over (s.stopped (some t) f) t f _ hv (by rwa [had])
  rw [takeFed_some]
  refine ⟨⟨sameBut_weaken (sameBut_trans hs.same hwent.same) (by simp), hwent.position.trans hs.position, fun h => ?_,
    fun r ρ hr ha hone => ?_⟩, ⟨verdict, hjudged, hverdict⟩, fun y hy => ?_⟩
  · have := hwent.stops (by rw [hs.position]; exact hs.stops h)
    rwa [hs.position] at this
  · rw [← hs.active r ρ hr ha hone, State.roll, hwent.rolls]
    rfl
  · have hother := stopped_others s (some t) f y (by simpa using hy)
    rcases hwent.others y hy with h | ⟨ha, j, a, b, hj, h⟩
    · exact .inl (by rw [h]; exact hother)
    · refine .inr ⟨had ▸ ha, ?_⟩
      rw [hj] at hother
      rw [h]
      rcases hsy : s.ticket y with _ | i
      · rw [hsy] at hother; exact absurd hother nofun
      · rw [hsy] at hother
        simp only [Option.map_some, Option.some.injEq] at hother ⊢
        rw [← hother]
        rfl

end Sys2Proof.Machine
end

section
/-! PROOF. The reports of swaths and FEEDs before what they end with (R36, R133, R134). -/

namespace Sys2Proof.Machine

open Sys2Proof

/-! ## A swath counted and metered -/

/-- R133: the state in which a swath's counts are metered: the operation ended, the swath counted, the idle timers
reloaded, a held request's pause timer started (R36). -/
def State.atSwath (s : State) (t : TicketId) : State :=
  ((s.endOp.countSwath t).reload .bySwath).firstSwathPause t

theorem takeSwath_eq (s : State) (t : TicketId) (f : Nat) (counts : Vector DropCounts 12) :
    s.takeSwath t f counts = (((s.atSwath t).meterSwath t counts).takeFed (some t) f).recost t := rfl

/-- A ticket whose swath was counted (R28, R133). -/
def Ticket.counted (k : Ticket) (p : Option Nat) : Ticket :=
  { k with swathCount := satAdd 65535 k.swathCount 1, outstanding := false, pauseTimer := p }

theorem atSwath_same (s : State) (t : TicketId) : s.sameBut [.desk, .engine, .run] (s.atSwath t) := by
  simp [State.atSwath, State.endOp, sameBut_iff]

theorem atSwath_engine (s : State) (t : TicketId) :
    (s.atSwath t).engine = { s.engine with op := none, swathTimer := none } := by
  simp [State.atSwath, State.endOp]

theorem atSwath_run (s : State) (t : TicketId) : (s.atSwath t).run.state = s.run.state := by
  have h : (s.atSwath t).run = ((s.endOp.countSwath t).reload .bySwath).run := by simp [State.atSwath]
  rw [h, reload_run]
  simp [State.endOp]

/-- R36, R133: what the counting of a swath leaves of the desk. -/
theorem atSwath_desk (s : State) (t : TicketId) (k : Ticket) (hk : s.ticket t = some k) :
    ∃ p, (s.atSwath t).desk = (s.setTicket t (k.counted p)).desk ∧
      (k.state ≠ .printing → p = k.pauseTimer) ∧
      (∀ q, k.state = .printing → k.swathCount = 0 → s.engine.request = some q → q.ticket = t → q.held = true →
        p = loadSeconds s.desk.pauseLimit) := by
  have hcount : ((s.endOp.countSwath t).reload .bySwath).desk = (s.setTicket t (k.counted k.pauseTimer)).desk := by
    rw [(reload_keeps _ _).2.1]
    unfold State.countSwath
    rw [modTicket_some (show s.endOp.ticket t = some k from hk)]
    rfl
  have hreq : ((s.endOp.countSwath t).reload .bySwath).engine.request = s.engine.request := by simp [State.endOp]
  have hkc := (ticket_of_desk hcount t).trans (setTicket_ticket_self _ _ _)
  generalize hu : (s.endOp.countSwath t).reload .bySwath = u at hcount hreq hkc
  have he : s.atSwath t = u.firstSwathPause t := by rw [State.atSwath, hu]
  rw [he, State.firstSwathPause, hkc, hreq]
  rcases hq : s.engine.request with _ | q
  · exact ⟨_, hcount, fun _ => rfl, fun q _ _ h => absurd h nofun⟩
  · dsimp only
    split_ifs with h
    · unfold State.startPause
      rw [modTicket_some hkc, setTicket_desk hcount, setTicket_setTicket_desk]
      have hlimit : u.desk.pauseLimit = s.desk.pauseLimit := by rw [hcount]; simp
      by_cases hp : k.state = .printing
      · refine ⟨loadSeconds s.desk.pauseLimit, ?_, fun h => absurd hp h, fun _ _ _ _ _ _ => rfl⟩
        simp only [Bool.and_eq_true, beq_iff_eq] at h
        rw [if_pos (by simp [Ticket.counted, hp] at h ⊢; omega), hlimit]
        rfl
      · exact ⟨k.pauseTimer, by rw [if_neg (by simp [Ticket.counted, hp])], fun _ => rfl, fun _ h => absurd h hp⟩
    · refine ⟨_, hcount, fun _ => rfl, fun q' _ hz hq' ht hh => absurd ?_ h⟩
      cases hq'
      simp [ht, hh, Ticket.counted, hz, satAdd]

/-- R133: the state in which a swath's fed length is taken. -/
def State.swathMetered (s : State) (t : TicketId) (counts : Vector DropCounts 12) : State :=
  (s.atSwath t).meterSwath t counts

theorem swathMetered_same (s : State) (t : TicketId) (counts : Vector DropCounts 12) :
    s.sameBut [.desk, .engine, .run, .costing, .supply, .tags, .notices] (s.swathMetered t counts) := by
  have h : (s.atSwath t).sameBut [.desk, .costing, .supply, .tags, .notices] (s.swathMetered t counts) := by
    simp [State.swathMetered, sameBut_iff]
  exact sameBut_weaken (sameBut_trans (atSwath_same s t) h) (by simp)

theorem swathMetered_engine (s : State) (t : TicketId) (counts : Vector DropCounts 12) :
    (s.swathMetered t counts).engine = { s.engine with op := none, swathTimer := none } := by
  simp [State.swathMetered, atSwath_engine]

/-- R46 to R51, R133: what the counting and the metering of a swath leave of the desk. -/
theorem swathMetered_desk (s : State) (t : TicketId) (counts : Vector DropCounts 12) (k : Ticket)
    (hk : s.ticket t = some k) :
    ∃ k' p, (s.swathMetered t counts).desk = (s.setTicket t k').desk ∧ k' = (k.counted p).inkedAs k' := by
  obtain ⟨p, hd, -, -⟩ := atSwath_desk s t k hk
  obtain ⟨k', hd', hk'⟩ := meterAll_ticket (List.finRange 12) (s.atSwath t) t counts _
    ((ticket_of_desk hd t).trans (setTicket_ticket_self _ _ _))
  exact ⟨k', p, by rw [State.swathMetered, meterSwath_eq, hd', setTicket_desk hd, setTicket_setTicket_desk], hk'⟩

/-! ## The reports -/

theorem exec_swathDone (s : State) (x : TicketId) (a f : Nat) (ab : Bool) (counts : Vector DropCounts 12)
    (h : s.engine.op = some ⟨.swath x a, ab⟩) :
    exec (.swathDone x.val f counts) s = .next ((s.begin.swathReported x a ab f counts).settle s.begin) := by
  show Host.Outcome.next (swathDone x.val f counts s.begin) = _
  have h' : s.begin.engine.op = some ⟨.swath x a, ab⟩ := h
  simp only [swathDone, h', if_true]

theorem exec_feedDone (s : State) (n f : Nat) (p : FeedPurpose) (ab : Bool) (h : s.engine.op = some ⟨.feed n p, ab⟩) :
    exec (.feedDone f) s = .next ((s.begin.feedReported n p ab f).settle s.begin) := by
  show Host.Outcome.next (feedDone f s.begin) = _
  have h' : s.begin.engine.op = some ⟨.feed n p, ab⟩ := h
  simp only [feedDone, h']

theorem recost_unclosed (s : State) (t : TicketId) (k : Ticket) (hk : s.ticket t = some k)
    (h : k.state ≠ .closedSpoiled) : s.recost t = s := by
  simp [State.recost, hk, h]

/-- R133: a report of a swath that was not aborted and fed no more than its allowance. -/
theorem swathReported_within (s : State) (x : TicketId) (a f : Nat) (counts : Vector DropCounts 12) (h : f ≤ a) :
    s.swathReported x a false f counts = (s.takeSwath x f counts).owedAfterSwath x a f := by
  have : decide (a < f) = false := decide_eq_false (by omega)
  simp [State.swathReported, this]

/-! ## The first entry reached by a report -/

/-- R115, R116: a fed length that brings P to the first entry, where no start is re-placed. -/
theorem reached_stopped (s v : State) (served : Option TicketId) (n : Nat) (e : StopEntry) (es : List StopEntry)
    (hs : v.media.stops = e :: es) (he : e.position = v.media.position + n) (hun : ∀ a ∈ e.actions, a.handed = false)
    (hcut : v.cutter = s.cutter) (hcol : v.colour = s.colour)
    (hfacts : ∀ y, (((v.fedTo served n).ticket y).map Ticket.readFacts) = (s.ticket y).map Ticket.readFacts)
    (hfed : ∀ y k, some y ≠ served → (v.fedTo served n).ticket y = some k →
      k.state = .printing ∨ k.state = .cancelling → k.fed ≠ 0) :
    (v.stopped served n).media.position = e.position ∧ s.reached (v.stopped served n) e es := by
  have hsame := fedTo_same v served n
  refine ⟨(stopped_tookFed v served n).position.trans he.symm, ?_⟩
  rw [State.stopped, replaceStart_fed _ served n hfed]
  refine reached_reachStop s _ e es ?_ ?_ hun ?_ ?_ hfacts
  · rw [fedTo_media]; exact hs
  · rw [fedTo_media]; exact he
  · exact (show (v.fedTo served n).cutter = v.cutter from hsame.2 .cutter (by simp)).trans hcut
  · exact (show (v.fedTo served n).colour = v.colour from hsame.2 .colour (by simp)).trans hcol

/-- R116, R118: the report of an eject feed that brings P to the first entry. -/
theorem feedDone_reaches (n : Nat) (e : StopEntry) (es : List StopEntry) (s : State) (hs : s.media.stops = e :: es)
    (he : e.position = s.media.position + n) (hun : ∀ a ∈ e.actions, a.handed = false)
    (hop : s.engine.op = some { kind := .feed n .eject, aborted := false })
    (hfed : ∀ y k, s.ticket y = some k → k.state = .printing ∨ k.state = .cancelling → k.fed ≠ 0) :
    ∃ u, exec (.feedDone n) s = .next (State.settle u s.begin) ∧ u.media.position = e.position ∧ s.reached u e es := by
  have hu : s.begin.feedReported n .eject false n = s.begin.endOp.stopped none n := by
    simp [State.feedReported, EngineLink.servedBy, takeFed_none]
  have hticket : ∀ y, (s.begin.endOp.fedTo none n).ticket y = s.ticket y := ticket_of_desk (fedTo_none_desk _ n)
  exact ⟨_, by rw [exec_feedDone s n n _ _ hop, hu],
    reached_stopped s s.begin.endOp none n e es hs he hun rfl rfl (fun y => by rw [hticket]) fun y k _ hk => by
      rw [hticket] at hk; exact hfed y k hk⟩

/-- R116, R118: the report of a PRINTING ticket's swath that brings P to the first entry. -/
theorem swathDone_reaches (n : Nat) (e : StopEntry) (es : List StopEntry) (s : State) (hs : s.media.stops = e :: es)
    (he : e.position = s.media.position + n) (hun : ∀ a ∈ e.actions, a.handed = false) (x : TicketId) (a : Nat)
    (k : Ticket) (counts : Vector DropCounts 12) (hop : s.engine.op = some { kind := .swath x a, aborted := false })
    (hna : n ≤ a) (hk : s.ticket x = some k) (hst : k.state = .printing) (hl : k.fed + n < k.l)
    (hfed : ∀ y k', y ≠ x → s.ticket y = some k' → k'.state = .printing ∨ k'.state = .cancelling → k'.fed ≠ 0) :
    ∃ u, exec (.swathDone x.val n counts) s = .next (State.settle u s.begin) ∧ u.media.position = e.position ∧
      s.reached u e es := by
  obtain ⟨k₁, p, hd₁, hk₁⟩ := swathMetered_desk s.begin x counts k hk
  have hsame := swathMetered_same s.begin x counts
  generalize hv : s.begin.swathMetered x counts = v at hd₁ hsame
  have hvk : v.ticket x = some k₁ := (ticket_of_desk hd₁ x).trans (setTicket_ticket_self _ _ _)
  have hfedTo := fedTo_some_desk v x n k₁ hvk
  have hothers : ∀ y, y ≠ x → (v.fedTo (some x) n).ticket y = s.ticket y := fun y hy => by
    rw [ticket_of_desk hfedTo, setTicket_ticket_ne _ _ hy.symm, ticket_of_desk hd₁]
    exact setTicket_ticket_ne _ _ hy.symm
  have hmedia : v.media = s.media := hsame.2 .media (by simp)
  obtain ⟨hpos, hreached⟩ := reached_stopped s v (some x) n e es (by rw [hmedia, hs]) (by rw [hmedia, he]) hun
    (hsame.2 .cutter (by simp)) (hsame.2 .colour (by simp)) (fun y => by
      by_cases hy : y = x
      · subst hy
        rw [ticket_of_desk hfedTo, setTicket_ticket_self, hk, hk₁]
        rfl
      · rw [hothers y hy])
    (fun y j hy hj => by
      have hyx : y ≠ x := fun h => hy (by rw [h])
      rw [hothers y hyx] at hj
      exact hfed y j hyx hj)
  obtain ⟨verdict, hstopped, -⟩ := stopped_ticket v x n k₁ hvk
  have htake : s.begin.takeSwath x n counts = v.stopped (some x) n := by
    rw [takeSwath_eq, ← State.swathMetered, hv, takeFed_some, fedReachesL_short _ x n _ hstopped,
      recost_unclosed _ x _ hstopped]
    · rw [hk₁]; simp [State.creditOf, Ticket.credited, Ticket.charge, Ticket.inkedAs, Ticket.counted, hst]
    · rw [hk₁]
      simp only [State.creditOf, Ticket.credited, Ticket.charge, Ticket.inkedAs, Ticket.counted]
      omega
  refine ⟨_, by rw [exec_swathDone s x a n false counts hop, swathReported_within _ x a n counts hna, htake],
    by simpa, ?_⟩
  exact reached_congr hreached (by simp) (by simp) (by simp) (by simp) fun y =>
    congrArg _ (ticket_of_desk (owedAfterSwath_keeps _ x a n).2.1 y)

end Sys2Proof.Machine
end

section
/-! PROOF. The cutter follows its lines (R145, R147, R148, R38, R54, R55, R116, R118). -/

namespace Sys2Proof.Machine

open Sys2Proof

/-- Settles O48: the lines and the timer by the cutter's state; the end of a traverse by the held action's kind, from
what the completion of each kind leaves; and the reports from what a fed length that reaches the first entry leaves. -/
theorem cutterFollowsItsLines : Obligations.CutterFollowsItsLines := by
  refine ⟨fun s => ?_, ?_, fun n e es s hs he hun => ⟨fun hop hfed => feedDone_reaches n e es s hs he hun hop hfed,
    fun x a k counts hop hna hk hst hl hfed =>
      swathDone_reaches n e es s hs he hun x a k counts hop hna hk hst hl hfed⟩⟩
  · obtain ⟨hstill, hfar, hhome⟩ := lines_without_end s
    exact ⟨hstill, rfl, rfl, hfar, hhome, fun e n h hs => exec_cutTimerExpiry s e n h hs, exec_cutTimerExpiry_still s⟩
  · intro target n h c s hs hc
    have hexec : exec c s = .next (((s.arrivedAt target).endCut h).settle s.begin) := by
      rw [← exec_lineRise_target s target n h hs, hc]; cases target <;> rfl
    obtain ⟨hsame, hout, hcut, hnot⟩ := endCut_arrived s target h
    rw [arrived_cutEnded] at hcut
    refine ⟨fun hi => ?_, fun k hi hkind hk hu => ?_, fun pos gap r ρ hi hkind hp hu hr ha hone => ?_,
      fun k a hi hkind hk hu hadm ha ha2 => ?_⟩
    · rw [reportCut_ignored _ h hi] at hsame hout hnot
      exact ⟨_, hexec, sameBut_weaken (sameBut_trans (arrivedAt_same s target) hsame) (by simp), by simpa using hout,
        hcut, hnot⟩
    · obtain ⟨hrs, hro, hrd, hrm, hrp⟩ := reportCut_separate (s.arrivedAt target) h k hi hkind hk hu
      have hdesk := (hsame.2 .desk (by simp)).trans hrd
      have hmedia : ((s.arrivedAt target).endCut h).media = _ := hsame.2 .media (by simp)
      have hnotices : ((s.arrivedAt target).reportCut h).notices = _ := hrs.2 .notices (by simp)
      refine ⟨_, hexec, sameBut_weaken (sameBut_trans (arrivedAt_same s target) (sameBut_trans hrs hsame)) (by simp),
        hout.trans (by simpa using hro), hcut, ?_, ?_, fun y hy => ?_, ?_, ?_, ?_⟩
      · rw [hnot, hnotices]; rfl
      · rw [ticket_of_desk hdesk]; simp
      · rw [ticket_of_desk hdesk]; exact setTicket_ticket_ne _ _ hy.symm
      · rw [hdesk]; rfl
      · rw [hmedia]; exact hrm
      · rw [hmedia]; exact hrp
    · have hrep := reportCut_leadTrim (s.arrivedAt target) h pos gap r ρ hi hkind hp hu hr ha hone
      rw [show (s.arrivedAt target).costing = s.costing by simp] at hrep
      have hrs : (s.arrivedAt target).sameBut [.costing, .media] ((s.arrivedAt target).reportCut h) := by
        rw [hrep]; simp [sameBut_iff]
      have hro : ((s.arrivedAt target).reportCut h).out = [] := by rw [hrep]; simp
      have hmedia : ((s.arrivedAt target).reportCut h).media =
          ((s.arrivedAt target).removeAction CutKind.leadTrim.fits h.ticket).media := by rw [hrep]; simp
      have hnotices : ((s.arrivedAt target).reportCut h).notices = _ := hrs.2 .notices (by simp)
      have hum : ((s.arrivedAt target).endCut h).media = _ := hsame.2 .media (by simp)
      have huc : ((s.arrivedAt target).endCut h).costing = _ := hsame.2 .costing (by simp)
      refine ⟨_, hexec, sameBut_weaken (sameBut_trans (arrivedAt_same s target) (sameBut_trans hrs hsame)) (by simp),
        hout.trans hro, hcut, ?_, ?_, ?_, ?_⟩
      · rw [hnot, hnotices]; rfl
      · rw [huc, hrep]; exact chargeHouse_costing (by simp) _
      · rw [hum, hmedia]; rfl
      · rw [hum, hmedia, (removeAction_media _ _ _).2]
        refine List.filter_congr fun a _ => ?_
        cases a.2.kind <;> rfl
    · have hrep := reportCut_trailCut (s.arrivedAt target) h k a hi hkind hk hu ha ha2
      rw [hrep] at hsame hout hnot
      generalize hv : ((s.arrivedAt target).setTicket h.ticket _).removeAction _ _ = v at hsame hout hnot
      have hvd : v.desk =
          ((s.arrivedAt target).setTicket h.ticket { k with fees := k.fees + s.costing.cutFee }).desk := by
        rw [← hv]; simp
      have hvk : v.ticket h.ticket = some { k with fees := k.fees + s.costing.cutFee } := by
        rw [ticket_of_desk hvd]; simp
      have hvm : v.media = ((s.arrivedAt target).removeAction (· == .trailCut) h.ticket).media := by rw [← hv]; rfl
      obtain ⟨⟨k', hk', hst, hcost, -⟩, hpath, hbit⟩ :=
        closeAtTrail_desk v h.ticket _ hvk (by rw [hvd]; simpa using hadm)
      have hdesk : ((s.arrivedAt target).endCut h).desk = _ := hsame.2 .desk (by simp)
      rw [hvd] at hpath
      refine ⟨_, v, k', hexec, by rw [← hv]; simp [sameBut_iff], by rw [← hv]; simp, hvk, fun y hy => ?_, ?_, ?_, ?_,
        hsame, hcut, hnot, (ticket_of_desk hdesk _).trans hk', hst, hcost.trans (by rw [cost_eq]), ?_, ?_⟩
      · rw [ticket_of_desk hvd]; exact setTicket_ticket_ne _ _ hy.symm
      · rw [hvd]; rfl
      · rw [hvm]; rfl
      · rw [hvm]; exact (removeAction_media _ _ _).2
      · rw [hdesk]; exact hpath
      · rw [hnot]
        unfold Notices.cutEnded
        split_ifs <;> simp [hbit]

end Sys2Proof.Machine
end

section
/-! PROOF. The report of a swath that fed no more than its allowance (R28, R36, R53, R112, R133). -/

namespace Sys2Proof.Machine

open Sys2Proof

/-! ## Reservations -/

/-- What a ticket reserves of a roll (R112). -/
def reservedBy (r : RollId) : Option Ticket → Nat
  | some k => if k.roll = r ∧ k.state.reserves = true then k.l - k.fed else 0
  | none => 0

theorem reservation_eq (s : State) (r : RollId) : s.reservation r = ∑ t : TicketId, reservedBy r (s.ticket t) := by
  rw [Fin.sum_univ_def, List.sum_eq_foldl, List.foldl_map]
  unfold State.reservation
  congr
  funext n t
  rcases s.ticket t with _ | k
  · rfl
  · simp only [reservedBy, Bool.and_eq_true, decide_eq_true_eq]
    split_ifs <;> rfl

theorem reservedBy_unplaced (r : RollId) (o : Option Ticket) :
    reservedBy r (o.map Ticket.unplaced) = reservedBy r o := by
  cases o <;> rfl

theorem reservedBy_congr {r : RollId} {o o' : Option Ticket} (h : o'.map Ticket.unplaced = o.map Ticket.unplaced) :
    reservedBy r o' = reservedBy r o := by
  rw [← reservedBy_unplaced, h, reservedBy_unplaced]

/-- R112: a start reserves what the ADMITTED ticket did. -/
theorem reservedBy_started {r : RollId} {o o' : Option Ticket}
    (h : o'.map Ticket.unplaced = o.map fun j => { j.unplaced with state := .printing })
    (ha : ∀ k, o = some k → k.state = .admitted) : reservedBy r o' = reservedBy r o := by
  rw [← reservedBy_unplaced r o', h]
  rcases o with _ | k
  · rfl
  · simp only [reservedBy, Option.map_some, ha k rfl]
    rfl

/-- R112: where one ticket's share falls by f and no other's moves, the reservation falls by f. -/
theorem reservation_falls (s u : State) (r : RollId) (x : TicketId) (f : Nat)
    (hx : reservedBy r (u.ticket x) + f = reservedBy r (s.ticket x))
    (ho : ∀ y, y ≠ x → reservedBy r (u.ticket y) = reservedBy r (s.ticket y)) :
    u.reservation r + f = s.reservation r := by
  rw [reservation_eq, reservation_eq, ← Finset.add_sum_erase _ _ (Finset.mem_univ x),
    ← Finset.add_sum_erase _ (fun t => reservedBy r (s.ticket t)) (Finset.mem_univ x),
    Finset.sum_congr rfl fun y hy => ho y (Finset.ne_of_mem_erase hy)]
  omega

/-! ## Charges -/

/-- What a swath is charged depends on the residues, the drop volumes and the bottles (R48 to R51). -/
theorem swathCharge_congr {s v : State} (hc : v.costing = s.costing) (hs : v.supply = s.supply)
    (counts : Vector DropCounts 12) :
    (∀ c, v.debitOf counts c = s.debitOf counts c) ∧ v.swathCharge counts = s.swathCharge counts := by
  have hd : ∀ c, v.debitOf counts c = s.debitOf counts c := fun c => by rw [State.debitOf, hc]; rfl
  refine ⟨hd, congrArg List.sum (List.map_congr_left fun c _ => ?_)⟩
  rw [hd, chargeOf_congr (bottles_of_supply hs c)]

/-- R46 to R51, R133: what the counting and the metering of a swath leave, within the ranges of R22 and R43. -/
theorem swathMetered_charges (s : State) (t : TicketId) (counts : Vector DropCounts 12) (k : Ticket)
    (hk : s.ticket t = some k) (hr : s.chargeable k) :
    ∃ k' p, (s.swathMetered t counts).desk = (s.setTicket t k').desk ∧ k' = (k.counted p).inkedAs k' ∧
      (∀ c : ChannelId, k'.ink[c] = min (2 ^ 32 - 1) (k.ink[c] + s.debitOf counts c)) ∧
      k'.acc = (k.charge (s.swathCharge counts)).acc ∧ k'.saturated = (k.charge (s.swathCharge counts)).saturated ∧
      (∀ c : ChannelId, (s.swathMetered t counts).costing.residues[c] = s.metered c counts[c] % 10000) ∧
      (k.state ≠ .printing → p = k.pauseTimer) ∧
      (∀ q, k.state = .printing → k.swathCount = 0 → s.engine.request = some q → q.ticket = t → q.held = true →
        p = loadSeconds s.desk.pauseLimit) := by
  obtain ⟨p, hd, hp, hpause⟩ := atSwath_desk s t k hk
  have hsame := atSwath_same s t
  have hcost : (s.atSwath t).costing = s.costing := hsame.2 .costing (by simp)
  obtain ⟨hdebit, hcharge⟩ := swathCharge_congr hcost (hsame.2 .supply (by simp)) counts
  obtain ⟨k', hm⟩ := meterSwath_metersTo (s.atSwath t) t counts (k.counted p)
    ((ticket_of_desk hd t).trans (setTicket_ticket_self _ _ _)) (by unfold State.chargeable; rw [hcost]; exact hr)
  refine ⟨k', p, by rw [State.swathMetered, hm.desk, setTicket_desk hd, setTicket_setTicket_desk], hm.same,
    fun c => ?_, ?_,
    ?_, fun c => ?_, hp, hpause⟩
  · rw [hm.ink c, if_pos (List.mem_finRange c), satAdd_eq_min, hdebit]
    rfl
  · rw [hm.acc, chargesOf_all, hcharge]; rfl
  · rw [hm.saturated, chargesOf_all, hcharge]; rfl
  · rw [State.swathMetered, hm.residues c, if_pos (List.mem_finRange c), State.metered, State.metered, hcost]

/-- R47 to R53: a ticket metered and then credited was charged both. -/
theorem charged_of_credit (s : State) (counts : Vector DropCounts 12) (f price : Nat) (k k₁ : Ticket)
    (hink : ∀ c : ChannelId, k₁.ink[c] = min (2 ^ 32 - 1) (k.ink[c] + s.debitOf counts c))
    (hacc : k₁.acc = (k.charge (s.swathCharge counts)).acc)
    (hsat : k₁.saturated = (k.charge (s.swathCharge counts)).saturated) (hfees : k₁.fees = k.fees)
    (hprice : price = s.mmPrice k.roll) : s.charged counts f k (k₁.charge (f * price)) := by
  obtain ⟨ha, hs⟩ := charge_charge k k₁ _ (f * price) hacc hsat
  rw [hprice] at *
  exact ⟨hink, by rw [ha, charge_acc], by rw [hs, charge_saturated], hfees⟩

end Sys2Proof.Machine
end

section
/-! PROOF. Swath reports credited (R28, R133): within the allowance, beyond it, and late. -/

namespace Sys2Proof.Machine

open Sys2Proof

theorem owedAfterSwath_engine (s : State) (x : TicketId) (a f : Nat) :
    (s.owedAfterSwath x a f).engine = { s.engine with owed := (s.owedAfterSwath x a f).engine.owed } := by
  unfold State.owedAfterSwath
  (repeat' split) <;> rfl

/-- R133, step 5: the owed feed after a swath of a ticket that prints or is being cancelled. -/
theorem owedAfterSwath_owed (s : State) (x : TicketId) (a f : Nat) (k : Ticket) (hk : s.ticket x = some k) :
    (k.state = .cancelling → (s.owedAfterSwath x a f).engine.owed = owedOf x (k.l - k.fed)) ∧
    (k.state = .printing → f < a → (s.owedAfterSwath x a f).engine.owed =
      some (x, (match s.engine.owed with | some (_, n) => n | none => 0) + (a - f))) ∧
    (k.state ≠ .cancelling → a ≤ f → (s.owedAfterSwath x a f).engine.owed = s.engine.owed) := by
  refine ⟨fun h => ?_, fun h hlt => ?_, fun h hle => ?_⟩
  · simp [State.owedAfterSwath, hk, h]
  · simp only [State.owedAfterSwath, hk, h, hlt, if_true, owedOf]
    rw [if_neg (by omega)]
    rfl
  · have : ¬ f < a := by omega
    simp only [State.owedAfterSwath, hk, this, if_false]
    split
    · exact absurd ‹_› h
    · rfl
    · rfl

/-- A judged ticket differs in its state and its pause timer (R28). -/
theorem judged_eq (k : Ticket) (f : Nat) :
    k.judged f = { k with state := (k.judged f).state, pauseTimer := (k.judged f).pauseTimer } := by
  unfold Ticket.judged
  split_ifs <;> rfl

theorem judged_state (k : Ticket) (f : Nat) :
    (k.judged f).state = if k.fed = k.l ∧ 0 < f ∧ k.state = .printing then .travelling else k.state := by
  unfold Ticket.judged
  split_ifs <;> rfl

theorem judged_short (k : Ticket) (f : Nat) (h : k.fed ≠ k.l ∨ k.state ≠ .printing) : k.judged f = k :=
  if_neg fun hc => h.elim (absurd hc.1) (absurd hc.2.2)

/-- R28, R36, R46 to R53, R133: what the counting, the metering and the fed length of a swath's report leave: from `s`
to `v` the ticket `x` went from `k` to `k'`. -/
structure State.swathTaken (s v : State) (x : TicketId) (f : Nat) (counts : Vector DropCounts 12) (k k' : Ticket) :
    Prop where
  ticket : v.ticket x = some k'
  fields : k' = { k with
    state := k'.state, swathCount := satAdd 65535 k.swathCount 1, outstanding := false,
    fed := k.fed + min f (k.l - k.fed), ink := k'.ink, acc := k'.acc, saturated := k'.saturated,
    overdraw := k'.overdraw, countClamped := k'.countClamped, verdict := k'.verdict, pauseTimer := k'.pauseTimer }
  state : k'.state =
    if k.fed + min f (k.l - k.fed) = k.l ∧ 0 < f ∧ k.state = .printing then .travelling else k.state
  verdict : (∀ p ∈ s.media.placed, p.2.ticket ≠ x) → k'.verdict = k.verdict
  quiet : k.state ≠ .printing → k'.pauseTimer = k.pauseTimer
  paused : ∀ q, k.state = .printing → k.swathCount = 0 → k.fed + min f (k.l - k.fed) ≠ k.l →
    s.engine.request = some q → q.ticket = x → q.held = true → k'.pauseTimer = loadSeconds s.desk.pauseLimit
  charged : s.charged counts (min f (k.l - k.fed)) k k'
  residues : ∀ c : ChannelId, v.costing.residues[c] = s.metered c counts[c] % 10000
  others : ∀ y, y ≠ x → (v.ticket y).map Ticket.unplaced = (s.ticket y).map Ticket.unplaced ∨
    y ∈ s.desk.admitted ∧ (v.ticket y).map Ticket.unplaced =
      (s.ticket y).map fun j => { j.unplaced with state := .printing }

theorem takeFed_swathTaken (s : State) (x : TicketId) (f : Nat) (counts : Vector DropCounts 12) (k : Ticket)
    (hk : s.ticket x = some k) (hadm : x ∉ s.desk.admitted) (hr : s.chargeable k) :
    ∃ k', s.swathTaken ((s.swathMetered x counts).takeFed (some x) f) x f counts k k' := by
  obtain ⟨k₁, p, hd₁, hk₁, hink, hacc, hsat, hres, hquiet, hpause⟩ := swathMetered_charges s x counts k hk hr
  have hmedia : (s.swathMetered x counts).media = s.media := (swathMetered_same s x counts).2 .media (by simp)
  have hadm₁ : (s.swathMetered x counts).desk.admitted = s.desk.admitted := by rw [hd₁]; simp
  generalize s.swathMetered x counts = v at hd₁ hres hmedia hadm₁
  have hvk : v.ticket x = some k₁ := (ticket_of_desk hd₁ x).trans (setTicket_ticket_self _ _ _)
  obtain ⟨-, ⟨verdict, ht, hverdict⟩, hothers⟩ := takeFed_served v x f k₁ hvk (by rwa [hadm₁])
  have hprice : v.mediaPrice k₁.roll = s.mmPrice k.roll := by
    rw [hk₁]; unfold State.mediaPrice State.mmPrice State.roll; rw [hmedia]; rfl
  have hcharged := charged_of_credit s counts (min f (k.l - k.fed)) _ k
    { k₁ with fed := k.fed + min f (k.l - k.fed) } hink hacc hsat (by rw [hk₁]; rfl) hprice
  have hcredit : v.creditOf k₁ f =
      { k₁ with fed := k.fed + min f (k.l - k.fed) }.charge (min f (k.l - k.fed) * v.mediaPrice k₁.roll) := by
    rw [State.creditOf, Ticket.credited, show k₁.fed = k.fed by rw [hk₁]; rfl, show k₁.l = k.l by rw [hk₁]; rfl]
  rw [hcredit] at ht
  generalize min f (k.l - k.fed) * v.mediaPrice k₁.roll = m at ht hcharged
  obtain ⟨j, rfl⟩ : ∃ j, k₁ = (k.counted p).inkedAs j := ⟨k₁, hk₁⟩
  refine ⟨_, ht, ?_, judged_state _ f, fun h => ?_, fun h => ?_, fun q hp hz hl hq hqx hheld => ?_, ?_, fun c => ?_,
    fun y hy => ?_⟩
  · rw [judged_eq]; rfl
  · rw [judged_eq]; exact hverdict (by rwa [hmedia])
  · refine (congrArg Ticket.pauseTimer (judged_short _ f ?_)).trans (hquiet h)
    exact .inr h
  · refine (congrArg Ticket.pauseTimer (judged_short _ f ?_)).trans (hpause q hp hz hq hqx hheld)
    exact .inl hl
  · rw [judged_eq]; exact hcharged
  · rw [(takeFed_keeps v (some x) f).2.1, hres c]
  · have hsy : v.ticket y = s.ticket y := (ticket_of_desk hd₁ y).trans (setTicket_ticket_ne _ _ hy.symm)
    have := hothers y hy
    rwa [hsy, hadm₁] at this

end Sys2Proof.Machine
end

section
/-! PROOF. The reports of swaths and FEEDs (R28, R53, R133 to R135). -/

namespace Sys2Proof.Machine

open Sys2Proof

/-- R116, R133: the media and the engine after a swath's counts and fed length were taken. -/
theorem takeFed_swathMedia (s : State) (x : TicketId) (f : Nat) (counts : Vector DropCounts 12) (k : Ticket)
    (hk : s.ticket x = some k) (hadm : x ∉ s.desk.admitted) :
    let v := (s.swathMetered x counts).takeFed (some x) f
    v.engine = { s.engine with op := none, swathTimer := none } ∧ v.run.state = s.run.state ∧
      v.media.position = s.media.position + f ∧
      ((∀ e ∈ s.media.stops, s.media.position + f ≤ e.position) →
        ∀ e ∈ v.media.stops, s.media.position + f ≤ e.position) ∧
      ∀ r ρ, s.roll r = some ρ → ρ.state = .active → (∀ r' ρ', s.roll r' = some ρ' → ρ'.state = .active → r' = r) →
        v.roll r = some { ρ with remaining := ρ.remaining - f } := by
  obtain ⟨k₁, p, hd, hk₁⟩ := swathMetered_desk s x counts k hk
  have hmedia : (s.swathMetered x counts).media = s.media := (swathMetered_same s x counts).2 .media (by simp)
  have hengine := swathMetered_engine s x counts
  have hrun : (s.swathMetered x counts).run.state = s.run.state := by
    rw [State.swathMetered, (meterSwath_keeps _ _ _).2.2.2.2.2.1, atSwath_run]
  generalize s.swathMetered x counts = v at hd hmedia hengine hrun
  obtain ⟨hfed, -, -⟩ := takeFed_served v x f k₁ ((ticket_of_desk hd x).trans (setTicket_ticket_self _ _ _))
    (by rw [hd]; exact hadm)
  have hroll : ∀ r, v.roll r = s.roll r := fun r => by rw [State.roll, hmedia]; rfl
  refine ⟨(hfed.same.2 .engine (by simp)).trans hengine,
    (congrArg RunRecord.state (hfed.same.2 .run (by simp))).trans hrun,
    by rw [hfed.position, hmedia], ?_, fun r ρ hr ha hone => hfed.active r ρ (by rwa [hroll]) ha
      fun r' ρ' hr' => hone r' ρ' (by rwa [← hroll])⟩
  have := hfed.stops
  rwa [hmedia] at this

/-- R112: the reservation of a roll falls with what a ticket of it has fed. -/
theorem swathTaken_reservation {s v : State} {x : TicketId} {f : Nat} {counts : Vector DropCounts 12} {k k' : Ticket}
    (h : s.swathTaken v x f counts k k') (hk : s.ticket x = some k) (hst : k.state = .printing ∨ k.state = .cancelling)
    (hf : k.fed + f ≤ k.l) (ha : ∀ y k', y ∈ s.desk.admitted → s.ticket y = some k' → k'.state = .admitted) :
    v.reservation k.roll + f = s.reservation k.roll := by
  refine reservation_falls s v k.roll x f ?_ fun y hy => ?_
  · have hmin : min f (k.l - k.fed) = f := by omega
    have hfields := h.fields
    have hstate := h.state
    rw [hmin] at hfields hstate
    have hroll : k'.roll = k.roll := by rw [hfields]
    have hl : k'.l = k.l := by rw [hfields]
    have hfed : k'.fed = k.fed + f := by rw [hfields]
    have hres : k.state.reserves = true := by rcases hst with h | h <;> rw [h] <;> rfl
    rw [hk, h.ticket]
    simp only [reservedBy, hroll, hl, hfed, hres, hstate, true_and]
    split_ifs <;> omega
  · rcases h.others y hy with ho | ⟨hy, ho⟩
    · exact reservedBy_congr ho
    · exact reservedBy_started ho fun k => ha y k hy

end Sys2Proof.Machine
end

section
/-! PROOF. The stop-now treatment in its run, media and notices (R39, R120, R137, R183), and a slip (R135). -/

namespace Sys2Proof.Machine

open Sys2Proof

/-- What the closing of tickets leaves while the run is HALTED: the run, the position, and the notices raised. -/
structure State.closesHalted (s v : State) : Prop where
  run : v.run = s.run
  position : v.media.position = s.media.position
  notices : ∀ i, s.notices.pending.getLsbD i = true → v.notices.pending.getLsbD i = true

theorem State.closesHalted.refl (s : State) : s.closesHalted s := ⟨rfl, rfl, fun _ h => h⟩

theorem State.closesHalted.trans {s u v : State} (h : s.closesHalted u) (h' : u.closesHalted v) : s.closesHalted v :=
  ⟨h'.run.trans h.run, h'.position.trans h.position, fun i hi => h'.notices i (h.notices i hi)⟩

theorem raise_mono (s : State) (k : Notice) (i : Nat) (h : s.notices.pending.getLsbD i = true) :
    (s.raise k).notices.pending.getLsbD i = true := by
  simp [State.raise, h]

/-- R173: in HALTED the run does not go IDLE. -/
theorem noTicketUnclosed_halted (s : State) (h : s.run.state = .halted) : s.noTicketUnclosed = s := by
  unfold State.noTicketUnclosed
  rw [h]
  split <;> rfl

/-- R182: in HALTED no drain ends. -/
theorem drainPause_halted (s : State) (h : s.run.state = .halted) : s.drainPause = s := by
  simp [State.drainPause, h]

theorem startTest_halted (s : State) (h : s.run.state = .halted) : s.startTest = s :=
  startTest_fails s (.inl (by simp [h]))

theorem cancelByPart_halted (s : State) (t : TicketId) (cause : SpoilCause) (h : s.run.state = .halted) :
    s.closesHalted (s.cancelByPart t cause) := by
  unfold State.cancelByPart
  split
  · exact .refl s
  · rw [noTicketUnclosed_halted _ (by simpa using h)]
    exact ⟨by simp, by simp, fun i hi => raise_mono _ _ i (by simpa using hi)⟩

theorem recordClose_halted (s : State) (t : TicketId) (k : Ticket) (o : Outcome) (cost : Nat) (hk : s.ticket t = some k)
    (h : s.run.state = .halted) : s.closesHalted (s.recordClose t o cost) := by
  have hr : (s.atClose t (k.closed o cost)).run = s.run := by
    unfold State.atClose; dsimp only; split <;> rfl
  have hp : (s.atClose t (k.closed o cost)).media.position = s.media.position := by
    unfold State.atClose; dsimp only; split <;> rfl
  have hh : ((s.atClose t (k.closed o cost)).raise .ticketClosed).run.state = .halted := by simp [hr, h]
  rw [recordClose_eq s t k o cost hk, drainPause_halted _ hh, startTest_halted _ hh, noTicketUnclosed_halted _ hh]
  exact ⟨by simpa using hr, by simpa using hp, fun i hi => raise_mono _ _ i (by rwa [atClose_notices])⟩

theorem closeAtStop_halted (s : State) (t : TicketId) (cause : SpoilCause) (h : s.run.state = .halted) :
    s.closesHalted (s.closeAtStop t cause) := by
  rcases hk : s.ticket t with _ | k
  · simp only [State.closeAtStop, hk]; exact .refl s
  · simp only [State.closeAtStop, hk]
    generalize hu : s.modEdition k.edition _ = u
    have hus : s.closesHalted u := by
      rw [← hu]; exact ⟨by simp, by simp, fun i hi => by simpa using hi⟩
    exact hus.trans (recordClose_halted u t k _ _ ((ticket_of_desk (by rw [← hu]; simp) t).trans hk)
      (by rw [hus.run]; exact h))

/-- What closes tickets one by one closes a list of them. -/
theorem foldl_closesHalted (op : State → TicketId → State)
    (hop : ∀ (s : State) t, s.run.state = .halted → s.closesHalted (op s t)) (ts : List TicketId) (s : State)
    (h : s.run.state = .halted) : s.closesHalted (ts.foldl op s) := by
  induction ts generalizing s with
  | nil => exact .refl s
  | cons t ts ih => exact (hop s t h).trans (ih _ (by rw [(hop s t h).run]; exact h))

/-- R39: the stop closes the tickets of the queues. -/
theorem stopTickets_halted (s : State) (cause : SpoilCause) (h : s.run.state = .halted) :
    s.closesHalted (s.stopTickets cause) := by
  have hcancel : s.closesHalted (s.cancelAll s.desk.admitted cause) :=
    foldl_closesHalted _ (fun s t => cancelByPart_halted s t cause) _ s h
  have hclose : (s.cancelAll s.desk.admitted cause).closesHalted
      ((s.cancelAll s.desk.admitted cause).closeAll (s.cancelAll s.desk.admitted cause).desk.path cause) :=
    foldl_closesHalted _ (fun s t => closeAtStop_halted s t cause) _ _ (by rw [hcancel.run]; exact h)
  obtain ⟨hr, hp, hn⟩ := hcancel.trans hclose
  exact ⟨hr, hp, hn⟩

theorem haltRun_run (s : State) (halt : HaltCause) : (s.haltRun halt).run.state = .halted ∧
    (s.run.state ≠ .halted → (s.haltRun halt).run.haltCause = some halt ∧
      (s.haltRun halt).notices.pending.getLsbD 16 = true) := by
  have hrun : ∀ r : RunRecord, (r.withdrawUnsent.enter .halted).state = .halted ∧
      (r.withdrawUnsent.enter .halted).haltCause = r.haltCause := fun r => by
    unfold RunRecord.withdrawUnsent; split <;> exact ⟨rfl, rfl⟩
  refine ⟨by simp [State.haltRun, (hrun _).1], fun h => ⟨?_, ?_⟩⟩
  · simp [State.haltRun, (hrun _).2, h]
  · have hb : (s.run.state != .halted) = true := by simp [h]
    simp only [State.haltRun, State.raiseIf, hb, if_true]
    exact raise_bit _ .runHalted

/-- R137: an ABORT with nothing outstanding leaves nothing outstanding, and nothing owed. -/
theorem abortEngine_idle (s : State) (h : s.engine.op = none) :
    s.abortEngine.engine.op = none ∧ s.abortEngine.engine.owed = none := by
  have hop : ((s.emit (.engine .abort)).denyRequest fun _ => true).engine.op = none := by
    unfold State.denyRequest
    split
    · split <;> simpa using h
    · simpa using h
  simp only [State.abortEngine, withEngine_engine, EngineLink.abort, hop, and_self]

/-- R135, R183: a stop-now of a run that is not HALTED, with nothing outstanding. -/
theorem stopNow_idle (s : State) (halt : HaltCause) (cause : SpoilCause) (hw : s.run.state ≠ .engineWait)
    (hh : s.run.state ≠ .halted) (hop : s.engine.op = none) :
    (s.stopNow halt cause).run.state = .halted ∧ (s.stopNow halt cause).run.haltCause = some halt ∧
      (s.stopNow halt cause).notices.pending.getLsbD 16 = true ∧
      (s.stopNow halt cause).media.position = s.media.position ∧ (s.stopNow halt cause).engine.op = none ∧
      (s.stopNow halt cause).engine.owed = none := by
  obtain ⟨hst, hrest⟩ := haltRun_run s halt
  obtain ⟨hcause, hbit⟩ := hrest hh
  have hrun : (s.haltRun halt).abortEngine.run = (s.haltRun halt).run := by simp
  obtain ⟨hr, hp, hn⟩ := stopTickets_halted (s.haltRun halt).abortEngine cause (by rw [hrun]; exact hst)
  obtain ⟨hop', howed⟩ := abortEngine_idle (s.haltRun halt) (by simpa using hop)
  rw [State.stopNow, if_neg hw]
  refine ⟨by simp [hr, hst], by simp [hr, hcause], ?_, ?_, by simpa using hop', by simpa using howed⟩
  · simpa using hn 16 (by simpa using hbit)
  · have hm : ∀ u : State, u.stopPath.stopUnits.writeBackFeeding.media.position = u.media.position := fun u => by
      simp [State.stopPath]
    rw [hm, hp]
    simp

end Sys2Proof.Machine
end

section
/-! PROOF. Swath and FEED reports credited (R28, R36, R40, R53, R58, R112, R133 to R135). -/

namespace Sys2Proof.Machine

open Sys2Proof

/-- R48, R49: the residue with what the counts fire. -/
theorem metered_eq (s : State) (counts : Vector DropCounts 12) (c : ChannelId) :
    s.metered c counts[c] = s.costing.residues[c] +
      (min counts[c].small 268435455 * s.costing.volumes[c].small +
        min counts[c].medium 268435455 * s.costing.volumes[c].medium +
        min counts[c].large 268435455 * s.costing.volumes[c].large) := by
  simp only [State.metered, DropVolumes.fired, countLimit, min_comm]

/-- The owed feed falls to nothing where all of it was fed (R134). -/
theorem owedOf_sub (x : TicketId) {m f : Nat} (h : f ≤ m) :
    owedOf x (m - f) = if m = f then none else some (x, m - f) := if_congr (by omega) rfl rfl

/-- R134: a FEED's report that pays an owed feed. -/
theorem feedReported_owed (s : State) (n f : Nat) (y x : TicketId) (m : Nat) (hf : f ≤ n)
    (ho : s.engine.owed = some (x, m)) :
    s.feedReported n (.owed y) false f =
      (s.endOp.withEngine { s.endOp.engine with owed := owedOf x (m - f) }).takeFed (some x) f := by
  have hn : decide (n < f) = false := decide_eq_false (by omega)
  simp [State.feedReported, EngineLink.servedBy, EngineLink.payOwed, ho, hn, State.endOp]

/-- R134: a FEED's report that pays nothing and serves no ticket. -/
theorem feedReported_blank (s : State) (n f : Nat) (p : FeedPurpose) (ab : Bool) (h : f ≤ n)
    (hp : p = .eject ∧ ab = false ∨ ab = true) : s.feedReported n p ab f = s.endOp.stopped none f := by
  have hn : decide (n < f) = false := decide_eq_false (by omega)
  rw [← takeFed_none]
  rcases hp with ⟨rfl, rfl⟩ | rfl
  · simp [State.feedReported, EngineLink.servedBy, hn]
  · cases p with
    | eject => simp [State.feedReported, EngineLink.servedBy]
    | owed y =>
      have hpay : s.endOp.withEngine (s.endOp.engine.payOwed true f) = s.endOp := by
        have : s.endOp.engine.payOwed true f = s.endOp.engine := by
          unfold EngineLink.payOwed
          split <;> rfl
        rw [this]; rfl
      simp [State.feedReported, EngineLink.servedBy, hpay]

/-- R133, R135: a swath's report beyond its allowance is a slip, after what it was credited. -/
theorem swathReported_slip (s : State) (x : TicketId) (a f : Nat) (counts : Vector DropCounts 12) (h : a < f) :
    s.swathReported x a false f counts = ((s.takeSwath x f counts).owedAfterSwath x a f).slip := by
  simp [State.swathReported, h]

/-- R40, R133: the late report of an aborted swath. -/
theorem swathReported_late (s : State) (x : TicketId) (a f : Nat) (counts : Vector DropCounts 12)
    (h : f ≤ a ∨ (s.takeSwath x f counts).run.state = .halted) :
    s.swathReported x a true f counts = s.takeSwath x f counts := by
  refine if_neg fun hc => ?_
  simp only [Bool.and_eq_true, decide_eq_true_eq, Bool.true_and, Bool.not_eq_true', beq_eq_false_iff_ne] at hc
  exact h.elim (by omega) hc.2

/-- R40, R58: a ticket closed spoiled is costed again. -/
theorem recost_spoiled (s : State) (x : TicketId) (k : Ticket) (e : Edition) (hk : s.ticket x = some k)
    (hst : k.state = .closedSpoiled) (he : s.edition k.edition = some e) :
    (s.recost x).ticket x = some { k with finalCost := some k.cost } ∧
      (s.recost x).edition k.edition =
        some { e with spoilCost := min (2 ^ 48 - 1) (e.spoilCost + (k.cost - k.finalCost.getD 0)) } := by
  have he' : (s.setTicket x { k with finalCost := some k.cost }).edition k.edition = some e :=
    (edition_of_editions (by simp) _).trans he
  simp only [State.recost, hk]
  rw [if_pos hst, modEdition_some he']
  refine ⟨?_, ?_⟩
  · rw [ticket_of_desk (setEdition_keeps _ _ _).1]; exact setTicket_ticket_self _ _ _
  · rw [setEdition_edition_self, satAdd_eq_min]; rfl

/-- R28: the state of a ticket credited a length that its L left room for. -/
theorem swathTaken_state {s v : State} {x : TicketId} {f : Nat} {counts : Vector DropCounts 12} {k k' : Ticket}
    (h : s.swathTaken v x f counts k k') (hl : k.fed < k.l) (hf : k.fed + f ≤ k.l) :
    k'.fed = k.fed + f ∧
      k'.state = if k.state = .printing ∧ k.fed + f = k.l then .travelling else k.state := by
  have hmin : min f (k.l - k.fed) = f := by omega
  have hfields := h.fields
  have hstate := h.state
  rw [hmin] at hfields hstate
  refine ⟨by rw [hfields], hstate.trans (if_congr
    ⟨fun ⟨hfull, _, hp⟩ => ⟨hp, hfull⟩, fun ⟨hp, hfull⟩ => ⟨hfull, ?_, hp⟩⟩
    rfl rfl)⟩
  omega

/-- R133, step 5: the owed feed after a swath of a ticket that prints or is being cancelled. -/
theorem swathTaken_owed {s v : State} {x : TicketId} {a f : Nat} {counts : Vector DropCounts 12} {k k' : Ticket}
    (h : s.swathTaken v x f counts k k') (hv : v.engine.owed = s.engine.owed)
    (hst : k.state = .printing ∨ k.state = .cancelling) (hl : k.fed < k.l) (hfa : f ≤ a) (hal : a ≤ k.l - k.fed) :
    (v.owedAfterSwath x a f).engine.owed =
      if k.state = .cancelling then (if k.fed + f = k.l then none else some (x, k.l - (k.fed + f)))
      else if f < a then some (x, (match s.engine.owed with | some (_, n) => n | none => 0) + (a - f))
      else s.engine.owed := by
  obtain ⟨hcancel, hprint, helse⟩ := owedAfterSwath_owed v x a f k' h.ticket
  obtain ⟨hfed, hstate⟩ := swathTaken_state h hl (by omega)
  have hl' : k'.l = k.l := by rw [h.fields]
  rw [hv] at hprint helse
  rcases hst with hp | hc
  · rw [if_neg (by simp [hp])]
    split_ifs with hlt
    · exact hprint (by rw [hstate, if_neg (by omega), hp]) hlt
    · exact helse (by rw [hstate, hp]; split_ifs <;> simp) (by omega)
  · rw [if_pos hc, hcancel (by rw [hstate, hc, if_neg (by simp)]), hl', hfed]
    exact if_congr (by omega) rfl rfl

/-- R53, R116: a ticket credited, in its fields. -/
theorem creditOf_eq (s : State) (k : Ticket) (f : Nat) : s.creditOf k f = { k with
    fed := k.fed + min f (k.l - k.fed),
    acc := min (2 ^ 64 - 1) (k.acc + min f (k.l - k.fed) * s.mediaPrice k.roll),
    saturated := k.saturated || decide (2 ^ 64 - 1 < k.acc + min f (k.l - k.fed) * s.mediaPrice k.roll) } := by
  rw [State.creditOf, Ticket.credited, Ticket.charge, satAdd_eq_min]
  rfl

/-- Settles O44: the ticket, the media and the roll by what the counting, the metering and the fed length of a report
leave; the owed feed after it; a slip by the stop-now treatment; and the late report by the new cost. -/
theorem swathAndFeedReportsAreCredited : Obligations.SwathAndFeedReportsAreCredited := by
  refine ⟨fun x a f counts k s hop hk hadm hl => ⟨fun hfa hal hr hst => ?_, fun haf hwait hhalt => ?_⟩,
    fun n f s hfn => ⟨fun x y m k ρ hop howed hfm hk hfl hadm hρ => ?_, fun hop => ?_⟩,
    fun x a f counts k e s hop hk hst hadm hpath hplaced he hr hfa => ?_⟩
  · have hmin : min f (k.l - k.fed) = f := by omega
    obtain ⟨k', ht⟩ := takeFed_swathTaken s.begin x f counts k hk hadm hr
    obtain ⟨heng, -, hpos, hstops, hact⟩ := takeFed_swathMedia s.begin x f counts k hk hadm
    have hres := swathTaken_reservation ht hk hst (by omega)
    have htake : s.begin.takeSwath x f counts = (s.begin.swathMetered x counts).takeFed (some x) f :=
      recost_unclosed _ x k' ht.ticket (by rw [ht.state]; split_ifs <;> rcases hst with h | h <;> simp [h])
    generalize (s.begin.swathMetered x counts).takeFed (some x) f = v at ht heng hpos hstops hact hres htake
    have hengine := owedAfterSwath_engine v x a f
    have hdesk : ∀ y, (v.owedAfterSwath x a f).ticket y = v.ticket y := ticket_of_desk (by simp)
    have howed := swathTaken_owed (a := a) ht (by rw [heng]) hst hl hfa hal
    have hfields := ht.fields
    refine ⟨v.owedAfterSwath x a f, k', ?_, by rw [hengine, heng], by rw [hengine, heng], by simpa using hpos,
      (hdesk x).trans ht.ticket, by rw [hfields, satAdd_eq_min], by rw [hfields],
      (swathTaken_state ht hl (by omega)).1, ?_, fun ha => ?_,
      fun c => ?_, fun hs => ?_, fun q hp hz hlt hq hqx hheld => ?_, ?_, ?_, fun r ρ hr ha hone => ?_⟩
    · rw [exec_swathDone s x a f false counts hop, swathReported_within _ x a f counts hfa, htake]
    · have := ht.charged
      rwa [hmin] at this
    · rw [reservation_eq]
      simp only [hdesk]
      rw [← reservation_eq]
      exact hres ha
    · rw [(owedAfterSwath_keeps v x a f).2.2.1, ht.residues c, ← metered_div]
      exact (Nat.mod_add_div _ _).trans (metered_eq s counts c)
    · rw [(owedAfterSwath_keeps v x a f).2.2.2.2.2.1, hpos]
      exact hstops fun e he => le_trans (Nat.add_le_add_left hfa _) (hs e he)
    · exact ht.paused q hp hz (by rw [hmin]; omega) hq hqx hheld
    · exact (swathTaken_state ht hl (by omega)).2
    · exact howed
    · rw [← hact r ρ hr ha hone, State.roll, (owedAfterSwath_keeps v x a f).2.2.2.2.2.1]
      rfl
  · obtain ⟨heng, hrun, hpos, -⟩ := takeFed_swathMedia s.begin x f counts k hk hadm
    have htake : s.begin.takeSwath x f counts = ((s.begin.swathMetered x counts).takeFed (some x) f).recost x := rfl
    generalize (s.begin.swathMetered x counts).takeFed (some x) f = v at heng hrun hpos htake
    have hend : ((v.recost x).owedAfterSwath x a f).engine.op = none := by
      rw [owedAfterSwath_engine, (recost_keeps v x).2.2.2.2.1, heng]
    have hslip := stopNow_idle ((v.recost x).owedAfterSwath x a f) .slip .engine (by simpa [hrun] using hwait)
      (by simpa [hrun] using hhalt) hend
    obtain ⟨hst, hcause, hbit, hp, hop', howed⟩ := hslip
    refine ⟨_, by rw [exec_swathDone s x a f false counts hop, swathReported_slip _ x a f counts haf, htake]; rfl, hst,
      hcause, hbit, hp.trans ?_, hop', howed⟩
    simpa using hpos
  · generalize hw : s.begin.endOp.withEngine { s.begin.endOp.engine with owed := owedOf x (m - f) } = w
    have hwk : w.ticket x = some k := by rw [← hw]; exact hk
    have hmin : min f (k.l - k.fed) = f := by omega
    have hwm : w.media = s.media := by rw [← hw]; rfl
    have hwe : w.engine = { s.engine with op := none, swathTimer := none, owed := owedOf x (m - f) } := by
      rw [← hw]; rfl
    have hprice : w.mediaPrice k.roll = ρ.width * ρ.price := by
      unfold State.mediaPrice
      rw [show w.roll k.roll = some ρ by rw [State.roll, hwm]; exact hρ]
    obtain ⟨hfed, ⟨verdict, ht, -⟩, -⟩ := takeFed_served w x f k hwk (by rw [← hw]; exact hadm)
    have hpos : (w.takeFed (some x) f).media.position = s.media.position + f := by rw [hfed.position, hwm]
    refine ⟨_, _, by rw [exec_feedDone s n f _ false hop, feedReported_owed s.begin n f y x m hfn howed, hw],
      (hfed.same.2 .engine (by simp)).trans ?_, fun hs => ?_, hpos, ht, ?_, ?_, ?_, ?_, fun hp hf => ?_⟩
    · rw [hwe, owedOf_sub x hfm]
    · have := hfed.stops (by rw [hwm]; exact fun e he => le_trans (Nat.add_le_add_left hfn _) (hs e he))
      rwa [hwm, ← hpos] at this
    · rw [judged_eq, creditOf_eq, hmin]
    · rw [judged_eq, creditOf_eq, hmin, hprice]
    · rw [judged_eq, creditOf_eq, hmin, hprice]
    · rw [judged_eq, creditOf_eq]
    · rw [judged_state, creditOf_eq, hmin]
      simp [hp, hf]
  · obtain ⟨p, ab, hop, hp⟩ : ∃ p ab, s.engine.op = some ⟨.feed n p, ab⟩ ∧ (p = .eject ∧ ab = false ∨ ab = true) := by
      rcases hop with h | ⟨p, h⟩
      · exact ⟨_, _, h, .inl ⟨rfl, rfl⟩⟩
      · exact ⟨_, _, h, .inr rfl⟩
    have hfed := stopped_tookFed s.begin.endOp none f
    have hstop := stopped_stopsBy s.begin.endOp none f
    have hmedia := hstop.media
    refine ⟨_, by rw [exec_feedDone s n f p ab hop, feedReported_blank _ n f p ab hfn hp],
      hfed.same.2 .engine (by simp),
      hfed.position, ?_, fun x k hk => ?_⟩
    · rw [hmedia, fedTo_media]; rfl
    · have hx := stopped_others s.begin.endOp none f x nofun
      rw [show s.begin.endOp.ticket x = some k from hk] at hx
      rcases hk' : (s.begin.endOp.stopped none f).ticket x with _ | k'
      · rw [hk'] at hx; exact absurd hx nofun
      · rw [hk'] at hx
        have hu : k'.unplaced = k.unplaced := Option.some.inj hx
        have hfed : k'.unplaced.fed = k.unplaced.fed := by rw [hu]
        have hacc : k'.unplaced.acc = k.unplaced.acc := by rw [hu]
        exact ⟨k', rfl, hfed, hacc⟩
  · obtain ⟨k₁, ht⟩ := takeFed_swathTaken s.begin x f counts k hk hadm hr
    obtain ⟨heng, hrun, hpos, -⟩ := takeFed_swathMedia s.begin x f counts k hk hadm
    have hed : ((s.begin.swathMetered x counts).takeFed (some x) f).editions = s.editions := by
      rw [(takeFed_keeps _ _ _).1]
      exact (swathMetered_same s.begin x counts).2 .editions (by simp)
    have htake : s.begin.takeSwath x f counts = ((s.begin.swathMetered x counts).takeFed (some x) f).recost x := rfl
    generalize (s.begin.swathMetered x counts).takeFed (some x) f = v at ht heng hrun hpos hed htake
    have hst₁ : k₁.state = .closedSpoiled := by rw [ht.state, if_neg (by simp [hst]), hst]
    have hk₁ : k₁.edition = k.edition := by rw [ht.fields]
    obtain ⟨hrk, hre⟩ := recost_spoiled v x k₁ e ht.ticket hst₁ (by rw [hk₁, edition_of_editions hed, he])
    have hlate := swathReported_late s.begin x a f counts (hfa.imp_right fun h => by
      rw [htake, (recost_keeps v x).2.2.2.2.2.2.2.1, hrun]; exact h)
    have hform := ht.fields
    rw [hst₁.trans hst.symm, ht.verdict hplaced, ht.quiet (by simp [hst]), satAdd_eq_min] at hform
    have hfinal : k₁.finalCost = k.finalCost := by rw [hform]
    rw [hk₁, hfinal] at hre
    refine ⟨v.recost x, _, k₁.cost, by rw [exec_swathDone s x a f true counts hop, hlate, htake], ?_, ?_, ?_, ?_, hrk,
      ht.charged, ?_, ?_, hre⟩
    · rw [(recost_keeps v x).2.2.2.2.1, heng]
    · rw [(recost_keeps v x).2.2.2.2.1, heng]
    · rw [(recost_keeps v x).2.2.2.2.1, heng]; rfl
    · rw [(recost_keeps v x).2.2.2.1, hpos]; rfl
    · rw [cost_eq, show k₁.fees = k.fees by rw [hform]]
    · generalize k₁.cost = cost
      rw [hform]

end Sys2Proof.Machine
end

section
/-! PROOF. The end of an event: holds, the head-care slot, the FEED that is due, the GRANT (R128 to R131, R175). -/

namespace Sys2Proof.Machine

open Sys2Proof

/-! ## The arbitration, by its cases -/

/-- R128: what the hold test and the choice of the next operation leave is left by the event's end, which may add to
what is sent. -/
theorem settle_over (s before : State) :
    (s.settle before).engine = (State.arbitrate 20 s.holdTest).engine ∧
      (s.settle before).desk = (State.arbitrate 20 s.holdTest).desk ∧
      ∀ o ∈ (State.arbitrate 20 s.holdTest).out, o ∈ (s.settle before).out := by
  refine ⟨by simp [State.settle], by simp [State.settle], fun o ho => ?_⟩
  have h : o ∈ ((State.arbitrate 20 s.holdTest).ejectTest before).out := by simpa using ho
  show o ∈ State.out (State.serveTags _)
  unfold State.serveTags
  (repeat' split) <;> first | exact h | exact List.mem_append_left _ h

/-- R175: nothing is presented where nothing is wanted. -/
theorem present_none (s : State) (h : s.wantedOp = none) : s.present = s := by
  unfold State.present
  rw [h]
  split <;> simp_all

/-- R128: with an empty slot and no head care wanted, a free engine is sent a FEED or a GRANT. -/
theorem arbitrate_free (s : State) (n : Nat) (hw : s.wantedOp = none) (hop : s.engine.op = none)
    (hs : s.run.slot = none) : State.arbitrate (n + 1) s = s.feedOrGrant := by
  simp [State.arbitrate, present_none s hw, hop, hs]

theorem mediaHold_false (s : State) (hc : ∀ e n h, s.cutter.state ≠ .cutting e n h)
    (hj : ∀ h, s.cutter.state ≠ .jammed h)
    (hm : s.colour.sensor ≠ .measuring) (hcal : s.colour.sensor ≠ .calibrating) : s.mediaHold = false := by
  have h1 : s.cutter.state.holdsMedia = false := by
    rw [← Bool.not_eq_true, holdsMedia_iff]
    rintro (⟨e, m, h, he⟩ | ⟨h, he⟩)
    · exact hc e m h he
    · exact hj h he
  have h2 : s.colour.sensor.holdsMedia = false := by
    cases hs : s.colour.sensor <;> simp_all [SensorState.holdsMedia]
  simp [State.mediaHold, h1, h2]

theorem stopDistance_nil (s : State) (h : s.media.stops = []) : s.stopDistance = none := by
  simp [State.stopDistance, h]

theorem stopDistance_cons (s : State) (e : StopEntry) (es : List StopEntry) (h : s.media.stops = e :: es) :
    s.stopDistance = some (e.position - s.media.position) := by
  simp [State.stopDistance, h]

/-! ## Head care wanted -/

/-- R180: where a channel needs its purge, the first that does is wanted in the states that purge. -/
theorem needs_first (s : State) (h : ∃ c, s.needs c) : ∃ c, s.needs c ∧ ∀ b, b < c → ¬ s.needs b := by
  obtain ⟨c, hc, hmin⟩ := WellFounded.has_min (wellFounded_lt (α := ChannelId)) {c | s.needs c} h
  exact ⟨c, hc, fun b hb hn => hmin b hn hb⟩

theorem isFed_iff (c : Channel) : c.isFed = true ↔ ∃ y, c.feed = .fed y := by
  unfold Channel.isFed
  split <;> simp_all

theorem singleWanted_none (s : State) (h : ∀ c, ¬ s.needs c) : s.singleWanted = none := by
  refine List.find?_eq_none.mpr fun c _ hc => h c ?_
  simp only [Bool.and_eq_true, isFed_iff] at hc
  exact ⟨hc.1, Option.isSome_iff_ne_none.mp hc.2⟩

/-- R175, R180, R181: what is wanted in the states that purge. -/
theorem wantedOp_purging (s : State) (h : s.purging) (hs : s.singleWanted = none) (hm : s.run.manual = none) :
    s.wantedOp = none := by
  unfold State.wantedOp
  rcases h with h | h | h | h <;> simp [h, RunState.open_, hs, hm]

/-- R175: where none of the head-care operations is wanted, none is presented. -/
theorem wantedOp_none (s : State) (h : ∀ o, ¬ s.wants o) : s.wantedOp = none := by
  by_cases hp : s.purging
  · have hn : ∀ c, ¬ s.needs c := fun c hc => by
      obtain ⟨b, hb, hmin⟩ := needs_first s ⟨c, hc⟩
      exact h (.purge (.single b)) ⟨hp, hb, hmin⟩
    refine wantedOp_purging s hp (singleWanted_none s hn) ?_
    by_contra hm
    exact h (.purge .manual) ⟨hp, hm, hn⟩
  · have hresting : s.run.state = .doze ∨ s.run.state = .capped → s.run.wanted = none := fun hr => by
      rcases hw : s.run.wanted with _ | _ | _
      · rfl
      · exact absurd ⟨hr, hw⟩ (h .park)
      · exact absurd ⟨hr, hw⟩ (h .cap)
    unfold State.wantedOp
    cases hs : s.run.state with
    | engineWait => rfl
    | halted => rfl
    | doze => simp [hresting (.inl hs)]
    | capped => simp [hresting (.inr hs)]
    | waking =>
      rcases hw : s.run.wake with _ | ⟨lvl, _ | _⟩
      · simp
      · exact absurd ⟨hs, lvl, hw⟩ (h .uncap)
      · exact absurd ⟨hs, lvl, hw⟩ (h (.purge .wake))
    | _ => exact absurd (by simp [State.purging, hs]) hp

/-! ## The FEED that is due -/

/-- R128: the FEED that is due is sent, and what is owed stays until its report. -/
theorem feedOrGrant_feed (s : State) (n : Nat) (p : FeedPurpose) (h : s.feedDue = some (n, p)) :
    s.feedOrGrant.engine = { s.engine with op := some { kind := .feed n p, aborted := false } } ∧
      .engine (.feed n) ∈ s.feedOrGrant.out := by
  simp only [State.feedOrGrant, h]
  exact ⟨rfl, List.mem_append_right _ (List.mem_singleton.mpr rfl)⟩

/-- R130: a request that is held is not granted. -/
theorem feedOrGrant_held (s : State) (h : s.feedDue = none)
    (hh : ∀ q, s.engine.request = some q → s.holds q.ticket ≠ []) :
    s.feedOrGrant = s := by
  simp only [State.feedOrGrant, h]
  rcases hq : s.engine.request with _ | q
  · rfl
  · simp [hh q hq]

theorem holds_ne_nil (s : State) (x : TicketId) (k : Hold) (h : s.holdApplies x k = true) : s.holds x ≠ [] := by
  refine List.ne_nil_of_mem (a := k) (List.mem_filter.mpr ⟨?_, h⟩)
  cases k <;> simp

/-- R130: the hold test writes the engine's request and its ticket's pause timer. -/
theorem holdTest_engine (s : State) :
    s.holdTest.engine = { s.engine with request := s.holdTest.engine.request } := by
  unfold State.holdTest
  split
  · rfl
  · split_ifs
    · simp
    · rfl

theorem holdTest_wantedOp (s : State) : s.holdTest.wantedOp = s.wantedOp := by
  simp [State.wantedOp, State.singleWanted, State.channel]

theorem holdTest_feedDue (s : State) : s.holdTest.feedDue = s.feedDue := by
  have howed : s.holdTest.engine.owed = s.engine.owed := by rw [holdTest_engine]
  simp [State.feedDue, State.mediaHold, State.stopDistance, howed]

/-- R128, R134: a free engine at an event's end, where no head care is wanted. -/
theorem settle_feeds (before s : State) (hop : s.engine.op = none) (hslot : s.run.slot = none)
    (hw : ∀ o, ¬ s.wants o) :
    (∀ n p, s.feedDue = some (n, p) →
      (s.settle before).engine.op = some { kind := .feed n p, aborted := false } ∧
      .engine (.feed n) ∈ (s.settle before).out ∧ (s.settle before).engine.owed = s.engine.owed) ∧
    (s.feedDue = none → s.engine.owed ≠ none → (s.settle before).engine.op = none) := by
  obtain ⟨heng, -, hout⟩ := settle_over s before
  have hop' : s.holdTest.engine.op = none := by rw [holdTest_engine]; exact hop
  have howed : s.holdTest.engine.owed = s.engine.owed := by rw [holdTest_engine]
  rw [arbitrate_free s.holdTest 19 (by rw [holdTest_wantedOp, wantedOp_none s hw]) hop' (by simpa using hslot)]
    at heng hout
  refine ⟨fun n p h => ?_, fun h ho => ?_⟩
  · obtain ⟨he, ho⟩ := feedOrGrant_feed s.holdTest n p (by rw [holdTest_feedDue, h])
    exact ⟨by rw [heng, he], hout _ ho, by rw [heng, he]; exact howed⟩
  · rw [heng, feedOrGrant_held s.holdTest (by rw [holdTest_feedDue, h])]
    · exact hop'
    · exact fun q _ => holds_ne_nil _ _ .owedFeed (by simp [State.holdApplies, howed, Option.isSome_iff_ne_none, ho])

/-! ## A request granted -/

/-- R131: the allowance is one of its three bounds, and above none of them. -/
theorem allowance_bounds (s : State) (step left : Nat) :
    let a := allowance step left s.stopDistance
    a ≤ step ∧ a ≤ left ∧ (∀ e es, s.media.stops = e :: es → a ≤ e.position - s.media.position) ∧
      (a = step ∨ a = left ∨ ∃ e es, s.media.stops = e :: es ∧ a = e.position - s.media.position) := by
  rcases hs : s.media.stops with _ | ⟨e, es⟩
  · rw [stopDistance_nil s hs]
    simp only [allowance]
    exact ⟨by omega, by omega, nofun, by omega⟩
  · rw [stopDistance_cons s e es hs]
    simp only [allowance]
    refine ⟨by omega, by omega, fun e' es' h => ?_, ?_⟩
    · cases h; omega
    · by_cases h : min step left ≤ e.position - s.media.position
      · omega
      · exact .inr (.inr ⟨e, es, rfl, by omega⟩)

/-- R30, R131: a grant to a ticket that prints. -/
theorem grant_printing (s : State) (q : SwathRequest) (k : Ticket) (hk : s.ticket q.ticket = some k)
    (hp : k.state = .printing) :
    let left := k.l - k.fed
    let a := allowance q.step left s.stopDistance
    .engine (.grant q.ticket a) ∈ (s.grant q).out ∧
      (s.grant q).engine = { s.engine with
        op := some { kind := .swath q.ticket a, aborted := false }, request := none, swathTimer := some 20000,
        owed := owedOf q.ticket (min q.step left - a) } ∧
      (s.grant q).desk = (s.setTicket q.ticket k.grantedSwath).desk := by
  simp only [State.grant, hk, hp, if_true]
  exact ⟨List.mem_append_right _ (List.mem_singleton.mpr rfl), rfl, rfl⟩

theorem holds_nil (s : State) (x : TicketId) (h : s.holds x = []) : s.mediaHold = false ∧ s.engine.owed = none := by
  have hno : ∀ k, s.holdApplies x k = false := fun k => by
    by_contra hc
    exact holds_ne_nil s x k (by simpa using hc) h
  have hcut := hno .cutter
  have hsen := hno .sensor
  have howed := hno .owedFeed
  simp only [State.holdApplies] at hcut hsen howed
  exact ⟨by simp [State.mediaHold, hcut, hsen], by simpa using howed⟩

/-- R130: a request that no hold applies to is left as it is by the hold test. -/
theorem holdTest_free (s : State) (h : ∀ q, s.engine.request = some q → s.holds q.ticket = []) : s.holdTest = s := by
  unfold State.holdTest
  split
  · rfl
  · rw [h _ ‹_›]; simp

/-- R131: the request pending at the end of an event, where nothing stands in its way. -/
theorem settle_grants (before s : State) (q : SwathRequest) (hr : s.run.state = .running) (hop : s.engine.op = none)
    (hslot : s.run.slot = none) (hm : s.run.manual = none) (hn : ∀ c : ChannelId, s.run.needsPurge[c] = none)
    (hej : s.media.eject = false) (hq : s.engine.request = some q) (hh : s.holds q.ticket = []) :
    (s.settle before).engine = (s.grant q).engine ∧ (s.settle before).desk = (s.grant q).desk ∧
      ∀ o ∈ (s.grant q).out, o ∈ (s.settle before).out := by
  obtain ⟨heng, hdesk, hout⟩ := settle_over s before
  have hwanted : s.wantedOp = none :=
    wantedOp_purging s (.inr (.inl hr)) (singleWanted_none s fun c hc => hc.2 (hn c)) hm
  have hfree : s.holdTest = s := holdTest_free s fun q' h => by rw [hq] at h; cases h; exact hh
  obtain ⟨hmh, howed⟩ := holds_nil s q.ticket hh
  have hdue : s.feedDue = none := by
    simp only [State.feedDue, hmh, howed, hej]
    rcases s.stopDistance with _ | d <;> rfl
  have hgrant : s.feedOrGrant = s.grant q := by simp [State.feedOrGrant, hdue, hq, hh]
  rw [hfree, arbitrate_free s 19 hwanted hop hslot, hgrant] at heng hdesk hout
  exact ⟨heng, hdesk, hout⟩

end Sys2Proof.Machine
end

section
/-! PROOF. A swath request that is denied, held or granted (R36, R129 to R131). -/

namespace Sys2Proof.Machine

open Sys2Proof

/-! ## A request that stays held -/

/-- R130: a hold that the end of an event does not lift, on a request of a ticket of edition `i`. -/
def State.heldFor (s : State) (i : EditionId) : Prop :=
  s.engine.owed ≠ none ∨ (∃ e es, s.media.stops = e :: es ∧ e.position ≤ s.media.position) ∨
    (∃ e n h, s.cutter.state = .cutting e n h) ∨ (∃ h, s.cutter.state = .jammed h) ∨
    s.colour.sensor = .measuring ∨ s.colour.sensor = .calibrating ∨
    (∃ e, s.edition i = some e ∧ ∃ c : ChannelId, e.channels.getLsbD c.val = true ∧ ∀ y, (s.channel c).feed ≠ .fed y)

theorem holds_of_heldFor (s : State) (x : TicketId) (k : Ticket) (hk : s.ticket x = some k) (h : s.heldFor k.edition) :
    s.holds x ≠ [] := by
  rcases h with h | ⟨e, es, hs, hp⟩ | h | h | h | h | ⟨e, he, c, hc, hf⟩
  · exact holds_ne_nil s x .owedFeed (Option.isSome_iff_ne_none.mpr h)
  · exact holds_ne_nil s x .stopAtHead (by
      simp [State.holdApplies, State.stopAtHead, stopDistance_cons s e es hs, Nat.sub_eq_zero_of_le hp])
  · exact holds_ne_nil s x .cutter ((holdsMedia_iff _).mpr (.inl h))
  · exact holds_ne_nil s x .cutter ((holdsMedia_iff _).mpr (.inr h))
  · exact holds_ne_nil s x .sensor (by simp [State.holdApplies, h, SensorState.holdsMedia])
  · exact holds_ne_nil s x .sensor (by simp [State.holdApplies, h, SensorState.holdsMedia])
  · refine holds_ne_nil s x .channelUnfed ?_
    have hfed : (s.channel c).isFed = false := by
      rw [← Bool.not_eq_true, isFed_iff]
      exact fun ⟨y, hy⟩ => hf y hy
    simp only [State.holdApplies, State.ticketChannels, hk, he, List.any_eq_true, membersOf, List.mem_filter,
      List.mem_finRange, true_and]
    exact ⟨c, hc, by simp [hfed]⟩

/-- What the choice of the next operation leaves of a request that stays held, of its ticket `x` and of what holds
it. -/
structure State.waits (s v : State) (x : TicketId) : Prop where
  request : v.engine.request = s.engine.request
  owed : v.engine.owed = s.engine.owed
  head : ∀ e es, s.media.stops = e :: es → e.position ≤ s.media.position →
    ∃ e' es', v.media.stops = e' :: es' ∧ e'.position ≤ v.media.position
  cutter : v.cutter = s.cutter
  colour : v.colour = s.colour
  supply : v.supply = s.supply
  editions : v.editions = s.editions
  ticket : v.ticket x = s.ticket x
  admitted : v.desk.admitted ⊆ s.desk.admitted

/-- Where the desk and the media stand, the request waits with its engine fields. -/
theorem State.waits.of_same {s v : State} (x : TicketId) (hr : v.engine.request = s.engine.request)
    (ho : v.engine.owed = s.engine.owed) (hd : v.desk = s.desk) (hm : v.media = s.media) (hc : v.cutter = s.cutter)
    (hcol : v.colour = s.colour) (hs : v.supply = s.supply) (he : v.editions = s.editions) : s.waits v x where
  request := hr
  owed := ho
  head e es h hp := ⟨e, es, by rw [hm, h], by rw [hm]; exact hp⟩
  cutter := hc
  colour := hcol
  supply := hs
  editions := he
  ticket := ticket_of_desk hd x
  admitted := by rw [hd]; exact List.Subset.refl _

theorem State.waits.trans {s u v : State} {x : TicketId} (h : s.waits u x) (h' : u.waits v x) : s.waits v x where
  request := h'.request.trans h.request
  owed := h'.owed.trans h.owed
  head e es hs hp := by
    obtain ⟨e', es', hs', hp'⟩ := h.head e es hs hp
    exact h'.head e' es' hs' hp'
  cutter := h'.cutter.trans h.cutter
  colour := h'.colour.trans h.colour
  supply := h'.supply.trans h.supply
  editions := h'.editions.trans h.editions
  ticket := h'.ticket.trans h.ticket
  admitted := List.Subset.trans h'.admitted h.admitted

theorem State.waits.heldFor {s v : State} {x : TicketId} (h : s.waits v x) {i : EditionId} (hh : s.heldFor i) :
    v.heldFor i := by
  unfold State.heldFor at *
  rw [h.owed, h.cutter, h.colour, edition_of_editions h.editions, show v.channel = s.channel from
    funext fun c => by rw [State.channel, h.supply]; rfl]
  rcases hh with hh | ⟨e, es, hs, hp⟩ | hh
  · exact .inl hh
  · exact .inr (.inl (h.head e es hs hp))
  · exact .inr (.inr hh)

/-! ## What the choice may do to it -/

/-- R117: an action entered at or beyond the first entry leaves the head where it is. -/
theorem enterStop_head (pos : Nat) (a : StopAction) (e : StopEntry) (es : List StopEntry) (h : e.position ≤ pos) :
    ∃ e' es', enterStop pos a (e :: es) = e' :: es' ∧ e'.position = e.position := by
  unfold enterStop
  split_ifs with h1 h2
  · exact ⟨_, _, rfl, rfl⟩
  · omega
  · exact ⟨_, _, rfl, rfl⟩

theorem enterAll_head (acts : List (Nat × StopAction)) (e : StopEntry) (es : List StopEntry)
    (h : ∀ a ∈ acts, e.position ≤ a.1) :
    ∃ e' es', acts.foldl (fun es a => enterStop a.1 a.2 es) (e :: es) = e' :: es' ∧ e'.position = e.position := by
  induction acts generalizing e es with
  | nil => exact ⟨e, es, rfl, rfl⟩
  | cons a acts ih =>
    obtain ⟨e₁, es₁, h₁, hp₁⟩ := enterStop_head a.1 a.2 e es (h a (by simp))
    obtain ⟨e₂, es₂, h₂, hp₂⟩ := ih e₁ es₁ fun b hb => by rw [hp₁]; exact h b (by simp [hb])
    exact ⟨e₂, es₂, by rw [List.foldl_cons, h₁, h₂], hp₂.trans hp₁⟩

theorem startTicket_waits (s : State) (t x : TicketId) (hx : t ≠ x) : s.waits (s.startTicket t) x := by
  rcases hk : s.ticket t with _ | k
  · rw [startTicket_none s t hk]
    exact ⟨rfl, rfl, fun e es h hp => ⟨e, es, h, hp⟩, rfl, rfl, rfl, rfl, rfl, List.erase_subset⟩
  · rw [startTicket_eq s t k hk]
    refine ⟨by simp, by simp, fun e es h hp => ?_, by simp, by simp, by simp, by simp, ?_, ?_⟩
    · obtain ⟨e', es', he, hpos⟩ := enterAll_head (k.stopActions t s.media.position s.media.pathEnd (k.lp == 20)) e es
        fun a ha => le_trans hp (stopActions_mem _ _ _ _ _ a ha).1
      exact ⟨e', es', by rw [← h] at he; simpa [Media.start] using he, by simpa [hpos, Media.start] using hp⟩
    · simpa [State.ticket, Desk.start] using put_ne _ _ hx
    · simpa [Desk.start] using List.erase_subset

theorem startTest_waits (s : State) (x : TicketId) (hx : x ∉ s.desk.admitted) : s.waits s.startTest x := by
  unfold State.startTest
  split
  · exact .of_same x rfl rfl rfl rfl rfl rfl rfl rfl
  · rename_i t ts ha
    split
    · exact startTicket_waits s t x fun h => hx (by simp [ha, h])
    · exact .of_same x rfl rfl rfl rfl rfl rfl rfl rfl

theorem withRun_waits (s : State) (r : RunRecord) (x : TicketId) : s.waits (s.withRun r) x :=
  .of_same x rfl rfl rfl rfl rfl rfl rfl rfl

theorem sendHead_waits (s : State) (op : HeadOp) (kind : EngineOpKind) (m : EngineMessage) (x : TicketId) :
    s.waits (s.sendHead op kind m) x := .of_same x rfl rfl rfl rfl rfl rfl rfl rfl

theorem wakeEnd_waits (s : State) (x : TicketId) (hx : x ∉ s.desk.admitted) : s.waits s.wakeEnd x := by
  unfold State.wakeEnd
  dsimp only
  split_ifs
  · exact withRun_waits s _ x
  · exact withRun_waits s _ x
  · exact (withRun_waits s _ x).trans (startTest_waits _ x hx)

/-- R128, R136: a head-care operation sent, or found to have nothing to send, leaves a held request as it is. -/
theorem sendPresented_waits (s : State) (op : HeadOp) (x : TicketId) (hx : x ∉ s.desk.admitted) :
    s.waits (s.sendPresented op) x := by
  have empty : ∀ u : State, u.waits u.emptySlot x := fun u => withRun_waits u _ x
  rcases op with _ | _ | _ | _ | c | _
  · exact sendHead_waits s _ _ _ x
  · exact sendHead_waits s _ _ _ x
  · exact sendHead_waits s _ _ _ x
  · rcases hw : s.run.wake with _ | ⟨lvl, step⟩
    · simpa only [State.sendPresented, hw] using empty s
    · simp only [State.sendPresented, hw, State.sendWakePurge]
      split_ifs
      · exact ((withRun_waits s _ x).trans (empty _)).trans (wakeEnd_waits _ x hx)
      · exact (withRun_waits s _ x).trans (sendHead_waits _ _ _ _ x)
  · show s.waits (s.sendSinglePurge c) x
    unfold State.sendSinglePurge
    split
    · dsimp only
      split_ifs
      · exact (withRun_waits s _ x).trans (empty _)
      · exact sendHead_waits s _ _ _ x
    · exact empty s
  · show s.waits s.sendManualPurge x
    unfold State.sendManualPurge
    split
    · exact empty s
    · dsimp only
      split_ifs
      · exact (withRun_waits s _ x).trans (empty _)
      · exact (withRun_waits s _ x).trans (sendHead_waits _ _ _ _ x)

theorem present_waits (s : State) (x : TicketId) : s.waits s.present x := by
  unfold State.present
  split
  · exact withRun_waits s _ x
  · exact .of_same x rfl rfl rfl rfl rfl rfl rfl rfl

/-- R128, R130: a held request waits through a FEED that is due. -/
theorem feedOrGrant_waits (s : State) (q : SwathRequest) (hq : s.engine.request = some q)
    (hh : s.holds q.ticket ≠ []) : s.waits s.feedOrGrant q.ticket := by
  rcases hd : s.feedDue with _ | ⟨n, p⟩
  · rw [feedOrGrant_held s hd fun q' h => by rw [hq] at h; cases h; exact hh]
    exact .of_same _ rfl rfl rfl rfl rfl rfl rfl rfl
  · simp only [State.feedOrGrant, hd]
    exact .of_same _ rfl rfl rfl rfl rfl rfl rfl rfl

/-- R130: the choice of the next operation leaves a held request pending. -/
theorem arbitrate_waits (n : Nat) (s : State) (q : SwathRequest) (k : Ticket) (hq : s.engine.request = some q)
    (hk : s.ticket q.ticket = some k) (hadm : q.ticket ∉ s.desk.admitted) (hh : s.heldFor k.edition) :
    s.waits (State.arbitrate n s) q.ticket := by
  induction n generalizing s with
  | zero => exact .of_same _ rfl rfl rfl rfl rfl rfl rfl rfl
  | succ n ih =>
    have hp := present_waits s q.ticket
    have after : ∀ u, s.waits u q.ticket → u.engine.request = some q ∧ u.ticket q.ticket = some k ∧
        q.ticket ∉ u.desk.admitted ∧ u.heldFor k.edition := fun u hu =>
      ⟨hu.request.trans hq, hu.ticket.trans hk, fun h => hadm (hu.admitted h), hu.heldFor hh⟩
    obtain ⟨hpq, hpk, hpa, hph⟩ := after _ hp
    unfold State.arbitrate
    dsimp only
    split_ifs
    · exact hp
    · split
      · rename_i op _
        have hs := hp.trans (sendPresented_waits s.present op q.ticket hpa)
        obtain ⟨hsq, hsk, hsa, hsh⟩ := after _ hs
        split_ifs
        · exact hs
        · exact hs.trans (ih _ hsq hsk hsa hsh)
      · exact hp.trans (feedOrGrant_waits s.present q hpq (holds_of_heldFor _ _ k hpk hph))

/-- R36, R130: a request found held for the first time is marked so, and its ticket's pause timer may start. -/
theorem holdTest_holds (s : State) (q : SwathRequest) (k : Ticket) (hq : s.engine.request = some q)
    (hheld : q.held = false) (hk : s.ticket q.ticket = some k) (hp : k.state = .printing)
    (hh : s.holds q.ticket ≠ []) :
    s.holdTest.engine.request = some { q with held := true } ∧
      s.holdTest.ticket q.ticket = some { k with pauseTimer :=
        if k.swathCount = 0 then k.pauseTimer else loadSeconds s.desk.pauseLimit } ∧
      s.holdTest.desk.admitted = s.desk.admitted := by
  have hne : (s.holds q.ticket).isEmpty = false := by simpa using hh
  simp only [State.holdTest, hq, hheld, hne, Bool.not_false, Bool.and_self, if_true]
  have hk' : (s.withEngine { s.engine with request := some { q with held := true } }).ticket q.ticket = some k := hk
  rw [State.startPause, modTicket_some hk']
  refine ⟨by simp, ?_, by simp⟩
  rw [setTicket_ticket_self]
  by_cases hz : k.swathCount = 0
  · rw [if_neg (by simp [hz]), if_pos hz]
  · rw [if_pos (by simp [hp]; omega), if_neg hz]
    rfl

/-- R36, R130: a request found held at the end of its event. -/
theorem settle_holds (before s : State) (q : SwathRequest) (k : Ticket) (hq : s.engine.request = some q)
    (hheld : q.held = false) (hk : s.ticket q.ticket = some k) (hp : k.state = .printing)
    (hadm : q.ticket ∉ s.desk.admitted) (hh : s.heldFor k.edition) :
    (s.settle before).engine.request = some { q with held := true } ∧
      (s.settle before).ticket q.ticket = some { k with pauseTimer :=
        if k.swathCount = 0 then k.pauseTimer else loadSeconds s.desk.pauseLimit } := by
  obtain ⟨heng, hdesk, -⟩ := settle_over s before
  obtain ⟨hr, ht, ha⟩ := holdTest_holds s q k hq hheld hk hp (holds_of_heldFor s _ k hk hh)
  have hh' : s.holdTest.heldFor k.edition := by
    have howed : s.holdTest.engine.owed = s.engine.owed := by rw [holdTest_engine]
    unfold State.heldFor at *
    simpa [howed, State.edition, State.channel] using hh
  have hw := arbitrate_waits 20 s.holdTest { q with held := true } _ hr ht (by rw [ha]; exact hadm) hh'
  exact ⟨by rw [heng, hw.request, hr], by rw [ticket_of_desk hdesk, hw.ticket, ht]⟩

end Sys2Proof.Machine
end

section
/-! PROOF. Swath requests and the FEED that is due, from the end of their event (R30, R36, R128 to R131, R134). -/

namespace Sys2Proof.Machine

open Sys2Proof

theorem mayPrint_iff (s : State) (x : TicketId) :
    s.mayPrint x = true ↔ s.run.state ≠ .engineWait ∧ ∃ k, s.ticket x = some k ∧ k.state = .printing := by
  unfold State.mayPrint
  cases s.ticket x <;> simp

/-- R129: a request by what the state answers it. -/
theorem exec_swathRequest (s : State) (x : TicketId) (step : Nat) (h1 : 1 ≤ step) (h2 : step ≤ 127) :
    exec (.swathRequest x.val step) s = .next
      (if s.mayPrint x = false then s.begin.deny x
       else if s.engine.request.isSome then s.begin.protocolError.settle s.begin
       else (s.begin.withEngine
         { s.engine with request := some { ticket := x, step := step, held := false } }).settle s.begin) := by
  show Host.Outcome.next (swathRequested x.val step s.begin) = _
  have hw : within 1 127 step = true := by simp [within, h1, h2]
  have hm : s.begin.mayPrint x = s.mayPrint x := rfl
  have hr : s.begin.engine = s.engine := rfl
  simp only [swathRequested, asId_val, hw, hm, hr]
  rcases s.mayPrint x with _ | _ <;> rfl

/-- R131: what the allowance cut off is owed. -/
theorem owedOf_cut (x : TicketId) (m a : Nat) : owedOf x (m - a) = if a < m then some (x, m - a) else none := by
  unfold owedOf
  by_cases h : a < m
  · rw [if_pos h, if_neg (by omega)]
  · rw [if_neg h, if_pos (by omega)]

/-- A request that becomes pending in its event. -/
def State.requested (s : State) (x : TicketId) (step : Nat) : State :=
  s.begin.withEngine { s.engine with request := some { ticket := x, step := step, held := false } }

/-- Settles O42: a request is answered by whether its ticket may print and whether another is pending; one that became
pending is granted, or stays held, at the end of its event; and so is the FEED that is due sent. -/
theorem swathRequestIsDeniedOrGranted : Obligations.SwathRequestIsDeniedOrGranted := by
  refine ⟨fun x step s h1 h2 => ?_, fun before s hop hslot hw hcut hjam hmeas hcal => ?_⟩
  · have hexec := exec_swathRequest s x step h1 h2
    refine ⟨fun hno => ?_, fun k hwait hk hp hreq => ?_, fun k q hwait hk hp hreq => ?_⟩
    · have hm : s.mayPrint x = false := by
        rw [← Bool.not_eq_true, mayPrint_iff]
        rintro ⟨hwait, k, hk, hp⟩
        exact hno.elim hwait fun h => h k hk hp
      rw [hexec, if_pos hm]
      rfl
    · have hm : s.mayPrint x = true := (mayPrint_iff s x).mpr ⟨hwait, k, hk, hp⟩
      have hnext : exec (.swathRequest x.val step) s = .next ((s.requested x step).settle s.begin) := by
        rw [hexec, if_neg (by simp [hm]), if_neg (by simp [hreq])]
        rfl
      refine ⟨hnext, fun hr hop hh hslot hman hn hej => ?_, fun hadm hheld => ?_⟩
      · obtain ⟨heng, hdesk, hout⟩ := settle_grants s.begin (s.requested x step) _ hr hop hslot hman hn hej rfl hh
        obtain ⟨hg, hge, hgd⟩ := grant_printing (s.requested x step) ⟨x, step, false⟩ k hk hp
        obtain ⟨hs, hl, hd, hone⟩ := allowance_bounds (s.requested x step) step (k.l - k.fed)
        generalize allowance step (k.l - k.fed) (s.requested x step).stopDistance = a at hg hge hs hl hd hone
        refine ⟨_, a, hnext, hout _ hg, hs, hl, hd, hone, ?_, ?_, fun y hy => ?_⟩
        · rw [heng, hge, ← owedOf_cut]
          rfl
        · rw [ticket_of_desk (hdesk.trans hgd)]
          exact setTicket_ticket_self _ _ _
        · rw [ticket_of_desk (hdesk.trans hgd)]
          exact setTicket_ticket_ne _ _ hy.symm
      · obtain ⟨hr, ht⟩ := settle_holds s.begin (s.requested x step) ⟨x, step, false⟩ k rfl rfl hk hp hadm hheld
        exact ⟨_, hnext, hr, ht⟩
    · have hm : s.mayPrint x = true := (mayPrint_iff s x).mpr ⟨hwait, k, hk, hp⟩
      rw [hexec, if_neg (by simp [hm]), if_pos (by simp [hreq])]
      exact congrArg (fun u : State => Host.Outcome.next (u.settle s.begin)) (if_neg hwait)
  · have hmh := mediaHold_false s hcut hjam hmeas hcal
    obtain ⟨hsend, hidle⟩ := settle_feeds before s hop hslot hw
    refine ⟨fun x n ho => ⟨fun hs => ?_, fun e es hs => ⟨fun hlt => ?_, fun hle => ?_⟩⟩, fun e es ho hej hs hlt => ?_⟩
    · exact hsend _ _ (by simp [State.feedDue, hmh, ho, stopDistance_nil s hs])
    · have hd : e.position - s.media.position ≠ 0 := by omega
      exact hsend _ _ (by simp [State.feedDue, hmh, ho, stopDistance_cons s e es hs, hd])
    · exact hidle (by simp [State.feedDue, hmh, ho, stopDistance_cons s e es hs, hle]) (by simp [ho])
    · have hd : e.position - s.media.position ≠ 0 := by omega
      exact hsend _ _ (by simp [State.feedDue, hmh, ho, stopDistance_cons s e es hs, hej, hd])

end Sys2Proof.Machine
end

section
/-! PROOF. The order of the stop list (R117): each operation that may touch the list keeps it. -/

namespace Sys2Proof.Machine

open Sys2Proof

/-! ## The stop list -/

/-- R117: what a stop list in its order is, of the list alone. -/
def stopsOrdered (es : List StopEntry) : Prop :=
  es.Pairwise (fun a b => a.position < b.position) ∧ ∀ e ∈ es, e.actions ≠ []

theorem ordered_iff (m : Media) : m.ordered ↔ stopsOrdered m.stops := Iff.rfl

theorem stopsOrdered_cons (e : StopEntry) (es : List StopEntry) : stopsOrdered (e :: es) ↔
    ((∀ b ∈ es, e.position < b.position) ∧ e.actions ≠ []) ∧ stopsOrdered es := by
  simp only [stopsOrdered, List.pairwise_cons, List.forall_mem_cons]
  tauto

/-- R117: an entry is made only at a position that no entry has, in its place in the order. -/
theorem enterStop_ordered (pos : Nat) (a : StopAction) (es : List StopEntry) (h : stopsOrdered es) :
    stopsOrdered (enterStop pos a es) := by
  induction es with
  | nil => exact (stopsOrdered_cons _ _).mpr ⟨⟨by simp, by simp⟩, h⟩
  | cons e es ih =>
    obtain ⟨⟨hlt, hne⟩, hes⟩ := (stopsOrdered_cons e es).mp h
    unfold enterStop
    split
    · exact (stopsOrdered_cons _ _).mpr ⟨⟨hlt, by simp⟩, hes⟩
    · split
      · rename_i hpos
        refine (stopsOrdered_cons _ _).mpr ⟨⟨?_, by simp⟩, h⟩
        rintro b hb
        obtain rfl | hb := List.mem_cons.mp hb
        · exact hpos
        · exact hpos.trans (hlt b hb)
      · refine (stopsOrdered_cons _ _).mpr ⟨⟨fun b hb => ?_, hne⟩, ih hes⟩
        obtain hp | ⟨b', hb', hp⟩ := enterStop_positions pos a es b hb
        · omega
        · exact hp ▸ hlt b' hb'

theorem enterAll_ordered (acts : List (Nat × StopAction)) (es : List StopEntry) (h : stopsOrdered es) :
    stopsOrdered (acts.foldl (fun es a => enterStop a.1 a.2 es) es) := by
  induction acts generalizing es with
  | nil => exact h
  | cons a acts ih => exact ih _ (enterStop_ordered a.1 a.2 es h)

/-- R118, R119: a withdrawal drops actions, and entries with them, and moves none. -/
theorem withdrawStops_ordered (p : StopAction → Bool) (es : List StopEntry) (h : stopsOrdered es) :
    stopsOrdered (withdrawStops p es) := by
  refine ⟨?_, withdrawStops_nonempty p es⟩
  induction es with
  | nil => exact List.Pairwise.nil
  | cons e es ih =>
    obtain ⟨⟨hlt, -⟩, hes⟩ := (stopsOrdered_cons e es).mp h
    rw [withdrawStops_cons]
    split
    · exact ih hes
    · refine List.pairwise_cons.mpr ⟨fun b hb => ?_, ih hes⟩
      obtain ⟨b', hb', hp⟩ := withdrawStops_positions p es b hb
      exact hp ▸ hlt b' hb'

section
variable {s : State} (h : s.media.ordered)
include h

/-! ## Placing and starting tickets -/

@[simp] theorem placeTicket_ordered (t : TicketId) (oldEnd : Int) : (s.placeTicket t oldEnd).media.ordered := by
  unfold State.placeTicket
  split
  · exact h
  · exact enterAll_ordered _ _ h

@[simp] theorem startTicket_ordered (t : TicketId) : (s.startTicket t).media.ordered := by
  unfold State.startTicket
  dsimp only
  split <;> simp [h]

@[simp] theorem startTest_ordered : s.startTest.media.ordered := by
  unfold State.startTest
  split
  · exact h
  · split <;> simp [h]

@[simp] theorem enterRunning_ordered : s.enterRunning.media.ordered := by
  simp [State.enterRunning, h]

/-! ## The roll and the eject: the list stays -/

theorem setRoll_ordered (r : RollId) (x : Option Roll) : (s.setRoll r x).media.ordered := h

@[simp] theorem drainEject_ordered : s.drainEject.media.ordered := by
  rw [drainEject_media]
  exact h

@[simp] theorem endEject_ordered : s.endEject.media.ordered := h

@[simp] theorem feedRoll_ordered (f : Nat) : (s.feedRoll f).media.ordered := by
  rw [feedRoll_media]
  exact h

@[simp] theorem ejectTest_ordered (before : State) : (s.ejectTest before).media.ordered := by
  unfold State.ejectTest
  split
  · exact h
  · split <;> exact h

@[simp] theorem deactivate_ordered : s.deactivate.media.ordered := by
  unfold State.deactivate
  split
  · exact h
  · split
    · exact h
    · exact setRoll_ordered h _ _

@[simp] theorem selectRoll_ordered (r : RollId) (x : Roll) : (s.selectRoll r x).media.ordered := by
  have hr : (s.deactivate.setRoll r (some { x with state := .active })).media.ordered :=
    setRoll_ordered (deactivate_ordered h) _ _
  simp only [State.selectRoll, raiseIf_keeps]
  exact hr

@[simp] theorem clearPath_ordered : s.clearPath.media.ordered := h

/-! ## The close of a ticket -/

@[simp] theorem removeAction_ordered (p : StopKind → Bool) (t : TicketId) : (s.removeAction p t).media.ordered :=
  withdrawStops_ordered _ _ h

@[simp] theorem withdrawPatch_ordered (t : TicketId) : (s.withdrawPatch t).media.ordered :=
  withdrawStops_ordered _ _ h

@[simp] theorem recordClose_ordered (t : TicketId) (o : Outcome) (cost : Nat) :
    (s.recordClose t o cost).media.ordered := by
  have hu : ∀ u : State, u.media = s.media →
      (if u.desk.path.isEmpty then u.withMedia { u.media with eject := false } else u).media.ordered := by
    intro u hu
    rw [← hu] at h
    split <;> exact h
  simp only [State.recordClose, noTicketUnclosed_keeps]
  refine startTest_ordered ?_
  simp only [drainPause_keeps, raise_keeps]
  exact hu _ (by simp)

@[simp] theorem closeAtTrail_ordered (t : TicketId) : (s.closeAtTrail t).media.ordered := by
  unfold State.closeAtTrail
  split
  · exact h
  · split <;> simp [h]

@[simp] theorem closeAtStop_ordered (t : TicketId) (cause : SpoilCause) : (s.closeAtStop t cause).media.ordered := by
  unfold State.closeAtStop
  split <;> simp [h]

theorem closeAll_ordered (ts : List TicketId) (cause : SpoilCause) : (s.closeAll ts cause).media.ordered := by
  induction ts generalizing s with
  | nil => exact h
  | cons t ts ih => exact ih (closeAtStop_ordered h t cause)

@[simp] theorem stopTickets_ordered (cause : SpoilCause) : (s.stopTickets cause).media.ordered := by
  have hc : (s.cancelAll s.desk.admitted cause).media.ordered := by simpa using h
  exact closeAll_ordered hc _ _

theorem cancelPrinting_ordered (t : TicketId) (k : Ticket) (cause : SpoilCause) :
    (s.cancelPrinting t k cause).media.ordered := by
  unfold State.cancelPrinting
  dsimp only
  split <;> simp [h]

theorem admissionEvent_ordered : s.admissionEvent.media.ordered := by
  have ha : s.atAdmission.media.ordered := by
    rw [(atAdmission_keeps s).1]
    exact h
  rw [admissionEvent_eq]
  split <;> simp [ha]

/-! ## The engine's choice and the end of an event -/

@[simp] theorem wakeEnd_ordered : s.wakeEnd.media.ordered := by
  unfold State.wakeEnd
  dsimp only
  split
  · simpa using h
  · split
    · simpa using h
    · exact enterRunning_ordered (by simpa using h)

@[simp] theorem sendWakePurge_ordered (lvl : Level) : (s.sendWakePurge lvl).media.ordered := by
  unfold State.sendWakePurge
  dsimp only
  split <;> simp [h]

@[simp] theorem sendPresented_ordered (op : HeadOp) : (s.sendPresented op).media.ordered := by
  unfold State.sendPresented
  (repeat' split) <;> simp [h]

theorem arbitrate_ordered (n : Nat) : (State.arbitrate n s).media.ordered := by
  induction n generalizing s with
  | zero => exact h
  | succ n ih =>
    have hp : s.present.media.ordered := by simpa using h
    unfold State.arbitrate
    dsimp only
    split
    · exact hp
    · split
      · split
        · exact sendPresented_ordered hp _
        · exact ih (sendPresented_ordered hp _)
      · simpa using hp

@[simp] theorem settle_ordered (before : State) : (s.settle before).media.ordered := by
  simp only [State.settle, serveTags_keeps]
  exact ejectTest_ordered (arbitrate_ordered (by simpa using h) _) _

theorem purgeEnded_ordered (kind : Option HeadOp) (set : ChannelSet) (aborted : Bool) :
    (s.purgeEnded kind set aborted).media.ordered := by
  unfold State.purgeEnded
  (repeat' split) <;> simp [h]

/-! ## Stop actions handed and completed -/

@[simp] theorem completeCut_ordered (kind : CutKind) (t : TicketId) : (s.completeCut kind t).media.ordered := by
  unfold State.completeCut
  split
  · exact h
  · dsimp only
    split <;> simp [h]

theorem endCut_ordered (c : HeldCut) : (s.endCut c).media.ordered := by
  unfold State.endCut
  dsimp only
  (repeat' split) <;> simp [h]

theorem carriageAt_ordered (x : CarriageEnd) : (s.carriageAt x).media.ordered := by
  unfold State.carriageAt
  split
  · split
    · exact endCut_ordered (by simpa using h) _
    · exact h
  · simpa using h

@[simp] theorem endRead_ordered (t : TicketId) (e : ReadEnd) : (s.endRead t e).media.ordered := by
  simp [State.endRead, h]

@[simp] theorem handRead_ordered (t : TicketId) : (s.handRead t).media.ordered := by
  unfold State.handRead
  dsimp only
  (repeat' split) <;> simp [h]

@[simp] theorem handAction_ordered (a : StopAction) : (s.handAction a).media.ordered := by
  unfold State.handAction
  split <;> simp [h]

theorem handAll_ordered (as : List StopAction) : (s.handAll as).media.ordered := by
  induction as generalizing s with
  | nil => exact h
  | cons a as ih => exact ih (handAction_ordered h a)

/-- R118: an entry whose actions are marked handed keeps its place and its actions. -/
@[simp] theorem reachStop_ordered : s.reachStop.media.ordered := by
  unfold State.reachStop
  split
  · exact h
  · rename_i e es hs
    split
    · refine handAll_ordered ?_ _
      rw [ordered_iff, hs] at h
      obtain ⟨⟨hlt, hne⟩, hes⟩ := (stopsOrdered_cons e es).mp h
      exact (stopsOrdered_cons _ _).mpr ⟨⟨hlt, by simpa using hne⟩, hes⟩
    · exact h

/-! ## A fed length -/

@[simp] theorem replaceStart_ordered (served : Option TicketId) (f : Nat) : (s.replaceStart served f).media.ordered := by
  obtain hr | ⟨t, k, -, -, -, -, -, hr⟩ := replaceStart_cases s served f <;> rw [hr]
  · exact h
  · exact placeTicket_ordered (s := s.unstarted t) (withdrawStops_ordered _ _ h) _ _

@[simp] theorem fedReachesL_ordered (served : Option TicketId) (f : Nat) : (s.fedReachesL served f).media.ordered := by
  unfold State.fedReachesL
  dsimp only
  (repeat' split) <;> simp [h]

@[simp] theorem takeFed_ordered (served : Option TicketId) (f : Nat) : (s.takeFed served f).media.ordered := by
  have hf : ((s.withMedia { s.media with position := s.media.position + f }).feedRoll f).media.ordered :=
    feedRoll_ordered (s := s.withMedia { s.media with position := s.media.position + f }) h f
  refine fedReachesL_ordered (reachStop_ordered (replaceStart_ordered ?_ _ _)) _ _
  split
  · simpa using hf
  · exact hf

/-! ## Stops, and the reports of the engine and the sensor -/

/-- R120: the stop list that a stop-now leaves is empty. -/
theorem stopNow_ordered (halt : HaltCause) (cause : SpoilCause) : (s.stopNow halt cause).media.ordered := by
  unfold State.stopNow
  split
  · exact h
  · simp only [writeBackFeeding_keeps, stopUnits_keeps]
    exact ⟨List.Pairwise.nil, nofun⟩

end

end Sys2Proof.Machine
end

section
/-! PROOF. The ranges of the tanks and channels (R65, R79 law 1): each operation that may touch them keeps them. -/

namespace Sys2Proof.Machine

open Sys2Proof

/-! ## One slot and one channel -/

/-- R79, law 1, of one slot. -/
def TankSlot.fits (x : TankSlot) : Prop := ∀ st r, x = .held st r → r.fill ≤ mlToNl r.capacity

/-- R65: the ranges of one channel's levels. -/
def Channel.levelled (c : Channel) : Prop := within 1 100 c.floor = true ∧ c.level ≤ c.floor

@[simp] theorem fits_empty : TankSlot.empty.fits := nofun
@[simp] theorem fits_reading (m : Option Nat) : (TankSlot.reading m).fits := nofun
@[simp] theorem fits_rejectedBare (x : BareReason) (m : Option Nat) : (TankSlot.rejectedBare x m).fits := nofun
@[simp] theorem fits_held (st : HeldState) (r : TankRecord) :
    (TankSlot.held st r).fits ↔ r.fill ≤ mlToNl r.capacity :=
  ⟨fun h => h st r rfl, fun h _ _ he => by cases he; exact h⟩

theorem supply_sound_iff (s : State) :
    s.supply.sound ↔ (∀ t, (s.tank t).fits) ∧ ∀ c, (s.channel c).levelled := Iff.rfl

theorem record_some {x : TankSlot} {r : TankRecord} (h : x.record = some r) : ∃ st, x = .held st r := by
  cases x <;> simp_all [TankSlot.record]

/-- R69, R83: what is stored from an image fits the capacity it carries. -/
theorem recordFrom_fits (i : TagImage) (m : Option Nat) (st : HeldState) : (TankSlot.held st (recordFrom i m)).fits := by
  rw [fits_held]
  unfold recordFrom storedFill
  dsimp only
  split <;> omega

section
variable {s : State} (h : s.supply.sound)
include h

theorem tank_fits (t : TankId) : (s.tank t).fits := ((supply_sound_iff s).mp h).1 t

theorem channel_levelled (c : ChannelId) : (s.channel c).levelled := ((supply_sound_iff s).mp h).2 c

theorem held_fits {t : TankId} {st : HeldState} {r : TankRecord} (ht : s.tank t = .held st r) :
    r.fill ≤ mlToNl r.capacity := tank_fits h t st r ht

theorem setTank_supplySound (t : TankId) {x : TankSlot} (hx : x.fits) : (s.setTank t x).supply.sound := by
  refine (supply_sound_iff _).mpr ⟨fun u => ?_, fun c => channel_levelled h c⟩
  rw [setTank_tank]
  split
  · exact hx
  · exact tank_fits h u

theorem setChannel_supplySound (c : ChannelId) {x : Channel} (hx : x.levelled) : (s.setChannel c x).supply.sound := by
  refine (supply_sound_iff _).mpr ⟨fun t => tank_fits h t, fun b => ?_⟩
  rw [setChannel_channel]
  split
  · exact hx
  · exact channel_levelled h b

/-- A slot whose record is rewritten fits where its capacity stays and its fill does not rise. -/
theorem rewrite_supplySound {t : TankId} {st : HeldState} {r : TankRecord} (ht : s.tank t = .held st r) (st' : HeldState)
    (r' : TankRecord) (hf : r'.fill ≤ r.fill := by exact le_rfl) (hc : r'.capacity = r.capacity := by rfl) :
    (s.setTank t (.held st' r')).supply.sound :=
  setTank_supplySound h t ((fits_held st' r').mpr (hf.trans (hc ▸ held_fits h ht)))

/-- A record changed in place fits where the change keeps its capacity and raises no fill. -/
theorem modRecord_supplySound (t : TankId) {f : TankRecord → TankRecord} (hf : ∀ r, (f r).fill ≤ r.fill)
    (hc : ∀ r, (f r).capacity = r.capacity) : (s.setTank t ((s.tank t).modRecord f)).supply.sound := by
  refine setTank_supplySound h t ?_
  unfold TankSlot.modRecord
  split
  · rename_i st r ht
    rw [fits_held, hc]
    exact (hf r).trans (held_fits h ht)
  · exact tank_fits h t

/-! ## Write-backs -/

theorem writeBack_supplySound (t : TankId) : (s.writeBack t).supply.sound := by
  unfold State.writeBack
  split
  · exact h
  · exact modRecord_supplySound h t (fun r => le_rfl) fun r => rfl

theorem writeBackIfNeeded_supplySound (t : TankId) : (s.writeBackIfNeeded t).supply.sound := by
  unfold State.writeBackIfNeeded
  split
  · exact h
  · split
    · exact writeBack_supplySound h t
    · exact h

end

/-- A fold keeps the ranges where its step does. -/
theorem foldl_supplySound {α : Type} {f : State → α → State}
    (hf : ∀ (s : State) a, s.supply.sound → (f s a).supply.sound) (l : List α) {s : State} (h : s.supply.sound) :
    (l.foldl f s).supply.sound :=
  List.foldlRecOn l f h fun s h a _ => hf s a h

section
variable {s : State} (h : s.supply.sound)
include h

theorem writeBackFeeding_supplySound : s.writeBackFeeding.supply.sound := by
  refine foldl_supplySound (fun s t h => ?_) _ h
  split
  · exact writeBackIfNeeded_supplySound h t
  · exact h

/-! ## Switchover -/

theorem startSwitch_supplySound (c : ChannelId) (x : Side) : (s.startSwitch c x).supply.sound :=
  setChannel_supplySound h c (channel_levelled h c)

theorem starve_supplySound (c : ChannelId) : (s.setChannel c { s.channel c with feed := .starved }).supply.sound :=
  setChannel_supplySound h c (channel_levelled h c)

theorem switchTest_supplySound (c : ChannelId) : (s.switchTest c).supply.sound := by
  unfold State.switchTest
  split
  · exact h
  · split
    · exact startSwitch_supplySound h c _
    · split
      · exact startSwitch_supplySound h c _
      · exact h
  · split
    · exact h
    · split
      · exact startSwitch_supplySound h c _
      · exact h

theorem leaveFeeding_supplySound (t : TankId) : (s.leaveFeeding t).supply.sound := by
  unfold State.leaveFeeding
  split
  · rename_i r ht
    exact writeBackIfNeeded_supplySound (rewrite_supplySound h ht _ r) t
  · exact h

theorem loseFeeding_supplySound (c : ChannelId) : (s.loseFeeding c).supply.sound := by
  simpa [State.loseFeeding] using switchTest_supplySound (starve_supplySound h c) c

theorem abandonSwitch_supplySound (c : ChannelId) : (s.abandonSwitch c).supply.sound := by
  unfold State.abandonSwitch
  split
  · refine switchTest_supplySound ?_ c
    rw [(raise_keeps _ _).2.2.2.1]
    exact leaveFeeding_supplySound (starve_supplySound h c) _
  · exact h

/-! ## Debits -/

theorem overdrawChannel_supplySound (c : ChannelId) (n : Nat) : (s.overdrawChannel c n).supply.sound :=
  setChannel_supplySound h c (channel_levelled h c)

theorem runDry_supplySound (c : ChannelId) : (s.runDry c).supply.sound := by
  unfold State.runDry
  split
  · rename_i y hy
    split
    · rename_i st r ht
      split
      · have hw := writeBackIfNeeded_supplySound
          (rewrite_supplySound h ht (if st = .feeding then .depleted else st) r) (tankOf c y)
        exact starve_supplySound hw c
      · exact h
    · exact h
  · exact h

theorem afterDebit_supplySound (c : ChannelId) (t : TankId) (n : Nat) : (s.afterDebit c t n).supply.sound := by
  unfold State.afterDebit
  split
  · exact h
  · refine runDry_supplySound (switchTest_supplySound ?_ c) c
    split
    · exact writeBack_supplySound (by simpa using h) t
    · simpa using h

/-- R74: a debit takes no more from a tank than it holds. -/
theorem debit_supplySound (c : ChannelId) (d : Nat) (t : Option TicketId) : (s.debit c d t).1.supply.sound := by
  by_cases hx : ∃ x st r, s.drawsFrom c x st r
  · obtain ⟨x, st, r, hx⟩ := hx
    rw [debit_drawn hx]
    have hset := rewrite_supplySound h hx.2 st { r with fill := r.fill - min d r.fill } (Nat.sub_le _ _)
    exact afterDebit_supplySound (by simpa using overdrawChannel_supplySound hset c _) c _ _
  · rw [debit_beyond (by simpa using hx)]
    simpa using overdrawChannel_supplySound h c d

theorem debitTicket_supplySound (t : TicketId) (c : ChannelId) (d : Nat) : (s.debitTicket t c d).supply.sound := by
  unfold State.debitTicket
  split
  · exact h
  · simpa using debit_supplySound h c d _

theorem meterChannel_supplySound (t : TicketId) (n : DropCounts) (c : ChannelId) :
    (s.meterChannel t n c).supply.sound := by
  unfold State.meterChannel
  split
  · exact h
  · exact debitTicket_supplySound (by simpa using h) t c _

theorem meterSwath_supplySound (t : TicketId) (counts : Vector DropCounts 12) : (s.meterSwath t counts).supply.sound :=
  foldl_supplySound (fun _ c h => meterChannel_supplySound h t counts[c] c) _ h

theorem purgeChannel_supplySound (v : Nat) (c : ChannelId) : (s.purgeChannel v c).supply.sound := by
  unfold State.purgeChannel
  dsimp only
  split
  · exact h
  · simpa using debit_supplySound h c _ none

theorem chargePurge_supplySound (volumes : Vector Nat 12) : (s.chargePurge volumes).supply.sound :=
  foldl_supplySound (fun _ c h => purgeChannel_supplySound h volumes[c] c) _ h

/-! ## Tags read and written -/

theorem rejectBare_supplySound (t : TankId) (x : BareReason) : (s.rejectBare t x).supply.sound := by
  simpa [State.rejectBare] using setTank_supplySound h t (fits_rejectedBare x (s.tank t).remembered)

theorem takeImage_supplySound (t : TankId) (b : List Byte) : (s.takeImage t b).supply.sound := by
  have hset := fun st => setTank_supplySound h t (recordFrom_fits (tagImage b) (s.tank t).remembered st)
  unfold State.takeImage
  dsimp only
  split
  · exact rejectBare_supplySound h t _
  · simpa using hset _
  · simpa using hset _
  · split
    · exact hset _
    · exact switchTest_supplySound (hset _) _

theorem writeEnded_supplySound (t : TankId) (fill : Nat) (written : Bool) : (s.writeEnded t fill written).supply.sound := by
  unfold State.writeEnded
  split
  · rename_i st r ht
    cases written <;> exact rewrite_supplySound h ht _ _
  · exact h

theorem endWrite_supplySound (t : TankId) (fill : Nat) (written : Bool) : (s.endWrite t fill written).supply.sound := by
  unfold State.endWrite
  dsimp only
  split
  · exact writeEnded_supplySound (by simpa using h) t fill written
  · simpa using h

theorem missed_supplySound (tx : TagTransaction) (m : Miss) : (s.missed tx m).supply.sound := by
  have hf : s.freeBus.supply.sound := h
  unfold State.missed
  split
  · simpa using h
  · split
    · exact rejectBare_supplySound hf _ _
    · exact rejectBare_supplySound hf _ _
    · exact endWrite_supplySound h _ _ _

theorem endImage_supplySound (t : TankId) (b : List Byte) : (s.endImage t b).supply.sound :=
  takeImage_supplySound (s := s.withTags { s.tags with phase := .idle, images := put s.tags.images t (some (b.take 18)) })
    h t b

theorem answered_supplySound (tx : TagTransaction) (v : TagVerdict) : (s.answered tx v).supply.sound := by
  unfold State.answered
  split
  · exact endImage_supplySound h _ _
  · exact endWrite_supplySound h _ _ _
  · exact rejectBare_supplySound (s := s.freeBus) h _ _
  · exact endWrite_supplySound h _ _ _
  · exact endWrite_supplySound h _ _ _
  · exact missed_supplySound h _ _

/-! ## Presence -/

theorem setPresence_supplySound (t : TankId) (level : Bool) : (s.setPresence t level).supply.sound := h

theorem seatTank_supplySound (t : TankId) : (s.seatTank t).supply.sound := by
  unfold State.seatTank
  split
  · simpa using setTank_supplySound h t (fits_reading none)
  · exact h

theorem seatPresent_supplySound : s.seatPresent.supply.sound := by
  refine foldl_supplySound (fun s t h => ?_) _ h
  split
  · exact seatTank_supplySound h t
  · exact h

theorem afterRemoval_supplySound (c : ChannelId) (x : Side) : (s.afterRemoval c x).supply.sound := by
  unfold State.afterRemoval
  split
  · split
    · exact loseFeeding_supplySound h c
    · exact h
  · split
    · exact abandonSwitch_supplySound h c
    · exact h
  · exact h

theorem removeTank_supplySound (t : TankId) : (s.removeTank t).supply.sound := by
  unfold State.removeTank
  split
  · exact h
  · refine afterRemoval_supplySound ?_ _ _
    simpa using setTank_supplySound (s := s.withTags (s.tags.fall t)) h t fits_empty

/-! ## The switch timer and the date -/

theorem feedFrom_supplySound (c : ChannelId) (x : Side) {r : TankRecord} (hr : r.fill ≤ mlToNl r.capacity) :
    (s.feedFrom c x r).supply.sound :=
  setChannel_supplySound (setTank_supplySound h _ ((fits_held _ r).mpr hr)) c (channel_levelled h c)

theorem completeSwitch_supplySound (c : ChannelId) (x : Side) : (s.completeSwitch c x).supply.sound := by
  unfold State.completeSwitch
  split
  · exact h
  · rename_i r hr
    obtain ⟨st, ht⟩ := record_some hr
    have hl := leaveFeeding_supplySound (feedFrom_supplySound h c x (held_fits h ht)) (tankOf c x.other)
    exact switchTest_supplySound (by simpa using hl) c

theorem flagExpired_supplySound (date : Nat) (t : TankId) : (s.flagExpired date t).supply.sound := by
  unfold State.flagExpired
  split
  · rename_i r ht
    split
    · exact rewrite_supplySound h ht _ _
    · exact h
  · exact h

theorem rejectExpired_supplySound (date : Nat) (t : TankId) : (s.rejectExpired date t).supply.sound := by
  unfold State.rejectExpired
  split
  · rename_i r ht
    split
    · simpa using rewrite_supplySound h ht .rejectedExpired r
    · exact h
  · exact h

theorem targetExpired_supplySound (before : State) (date : Nat) (c : ChannelId) :
    (s.targetExpired before date c).supply.sound := by
  unfold State.targetExpired
  split
  · split
    · exact abandonSwitch_supplySound h c
    · exact h
  · exact h

theorem expire_supplySound (date : Nat) : (s.expire date).supply.sound :=
  foldl_supplySound (fun _ c h => targetExpired_supplySound h _ date c) _
    (foldl_supplySound (fun _ t h => rejectExpired_supplySound h date t) _
      (foldl_supplySound (fun _ t h => flagExpired_supplySound h date t) _ h))

/-! ## Release -/

theorem release_supplySound (t : TankId) : (s.release t).supply.sound := by
  have hw := modRecord_supplySound (writeBack_supplySound h t) t (f := fun r => { r with releasePending := true })
    (fun r => le_rfl) fun r => rfl
  unfold State.release
  dsimp only
  split
  · split
    · rename_i st r ht
      exact loseFeeding_supplySound (rewrite_supplySound hw ht _ r) _
    · exact hw
  · exact hw

end

end Sys2Proof.Machine
end

section
/-! PROOF. The ranges of the colour check unit (R153, R157), and of the costing unit (R43, R64): each operation that
may touch them keeps them. -/

namespace Sys2Proof.Machine

open Sys2Proof

/-! ## The colour check unit -/

section
variable {s : State} (h : s.colour.sound)
include h

theorem refset_length (r : RefsetId) : (s.refset r).targets.length ≤ 24 := by
  obtain ⟨-, -, ht⟩ := h
  exact ht r

theorem setRefset_colourSound (r : RefsetId) {x : RefSet} (hx : x.targets.length ≤ 24) :
    (s.setRefset r x).colour.sound := by
  obtain ⟨hc, he, ht⟩ := h
  refine ⟨hc, he, fun q => ?_⟩
  change ((s.setRefset r x).refset q).targets.length ≤ 24
  rw [setRefset_refset]
  split
  · exact hx
  · exact ht q

/-- R156: a use count moves under the same targets. -/
theorem useSet_colourSound (r : Option RefsetId) : (s.useSet r).colour.sound := by
  cases r with
  | none => exact h
  | some r => exact setRefset_colourSound h r (refset_length h r)

theorem releaseSet_colourSound (r : Option RefsetId) : (s.releaseSet r).colour.sound := by
  cases r with
  | none => exact h
  | some r => exact setRefset_colourSound h r (refset_length h r)

@[simp] theorem sendCalibrate_colourSound : s.sendCalibrate.colour.sound := by
  obtain ⟨hc, -, ht⟩ := h
  exact ⟨hc, Nat.mod_lt _ (by decide), ht⟩

@[simp] theorem sendMeasure_colourSound (n : Nat) : (s.sendMeasure n).colour.sound := by
  obtain ⟨-, -, ht⟩ := h
  refine ⟨?_, Nat.mod_lt _ (by decide), ht⟩
  rw [sendMeasure_colour]
  exact (satAdd_eq_min 50 _ 1).trans_le (min_le_left _ _)

theorem hold_colourSound (r : Option HeldRead) : (s.withColour { s.colour with held := r }).colour.sound := h

@[simp] theorem sensorEnds_colourSound (st : SensorState) : (s.sensorEnds st).colour.sound := h

@[simp] theorem stopUnits_colourSound : s.stopUnits.colour.sound := h

theorem handRead_colourSound (t : TicketId) : (s.handRead t).colour.sound := by
  unfold State.handRead
  split
  · exact h
  · split
    · simpa using h
    · dsimp only
      split
      · simpa using h
      · split
        · exact h
        · split
          · simpa using h
          · exact sendCalibrate_colourSound (hold_colourSound h _)
          · split
            · exact sendCalibrate_colourSound (hold_colourSound h _)
            · exact sendMeasure_colourSound (hold_colourSound h _) _
          · exact h
          · exact h

theorem handAction_colourSound (a : StopAction) : (s.handAction a).colour.sound := by
  unfold State.handAction
  split
  case h_4 => exact handRead_colourSound h _
  all_goals simpa using h

theorem handAll_colourSound (as : List StopAction) : (s.handAll as).colour.sound := by
  induction as generalizing s with
  | nil => exact h
  | cons a as ih => exact ih (handAction_colourSound h a)

theorem reachStop_colourSound : s.reachStop.colour.sound := by
  unfold State.reachStop
  split
  · exact h
  · split
    · exact handAll_colourSound (by simpa using h) _
    · exact h

theorem takeFed_colourSound (served : Option TicketId) (f : Nat) : (s.takeFed served f).colour.sound := by
  unfold State.takeFed
  simp only [fedReachesL_keeps]
  refine reachStop_colourSound ?_
  split <;> simpa using h

theorem calibrated_colourSound : s.calibrated.colour.sound := by
  obtain ⟨-, he, ht⟩ := h
  have h0 : (s.withColour { s.colour with calCount := 0, timer := none }).colour.sound := ⟨by simp, he, ht⟩
  unfold State.calibrated
  dsimp only
  split
  · exact h0
  · split
    · exact h0
    · exact sendMeasure_colourSound h0 _

theorem calibrationFailed_colourSound : s.calibrationFailed.colour.sound := by
  unfold State.calibrationFailed
  dsimp only
  (repeat' split) <;> simp [h]

theorem readFailed_colourSound (r : HeldRead) : (s.readFailed r).colour.sound := by
  obtain ⟨-, he, ht⟩ := h
  simp only [State.readFailed, endRead_keeps, raise_keeps]
  exact ⟨le_rfl, he, ht⟩

theorem attemptFailed_colourSound : s.attemptFailed.colour.sound := by
  unfold State.attemptFailed
  split
  · exact h
  · split
    · exact h
    · split
      · exact readFailed_colourSound h _
      · exact sendMeasure_colourSound (hold_colourSound h _) _

theorem rowTaken_colourSound (row : List Lab) : (s.rowTaken row).colour.sound := by
  unfold State.rowTaken State.rowRead
  split
  · exact h
  · split
    · exact h
    · split
      · split <;> simp [h]
      · exact attemptFailed_colourSound h

theorem settleEnds_colourSound : s.settleEnds.colour.sound := by
  unfold State.settleEnds
  dsimp only
  split
  · exact h
  · split
    · exact h
    · exact sendCalibrate_colourSound (s := s.withColour { s.colour with settle := none }) h

end

/-! ## The costing unit -/

section
variable {s : State} (h : s.costing.sound)
include h

/-- R61: the house account saturates. -/
@[simp] theorem chargeHouse_costingSound (n : Nat) : (s.chargeHouse n).costing.sound := by
  obtain ⟨hr, hv, hc, hk, -⟩ := h
  refine ⟨hr, hv, hc, hk, ?_⟩
  rw [chargeHouse_eq]
  exact Nat.lt_of_le_of_lt (min_le_left _ _) (by decide)

theorem cutFee_costingSound (kind : CutKind) (t : TicketId) : (s.cutFee kind t).costing.sound := by
  unfold State.cutFee
  (repeat' split) <;> simp [h]

theorem completeCut_costingSound (kind : CutKind) (t : TicketId) : (s.completeCut kind t).costing.sound := by
  unfold State.completeCut
  dsimp only
  (repeat' split) <;> simp [h]

theorem endCut_costingSound (c : HeldCut) : (s.endCut c).costing.sound := by
  have hr : (s.reportCut c).costing.sound := by
    unfold State.reportCut
    split
    · exact h
    · exact completeCut_costingSound (cutFee_costingSound h _ _) _ _
  rw [endCut_eq]
  split <;> simpa using hr

theorem carriageAt_costingSound (x : CarriageEnd) : (s.carriageAt x).costing.sound := by
  unfold State.carriageAt
  split
  · split
    · exact endCut_costingSound (by simpa using h) _
    · exact h
  · simpa using h

/-- R49, R64: the residue left is what is not a whole nanolitre. -/
theorem meterChannel_costingSound (t : TicketId) (n : DropCounts) (c : ChannelId) :
    (s.meterChannel t n c).costing.sound := by
  unfold State.meterChannel
  split
  · exact h
  · obtain ⟨hr, hrest⟩ := h
    simp only [debitTicket_keeps, withCosting_costing, modTicket_keeps]
    refine ⟨fun i => ?_, hrest⟩
    change (put s.costing.residues c _)[i.val] < 10000
    rw [put_get]
    split
    · exact Nat.mod_lt _ (by decide)
    · exact hr i

end

/-- R61: a purge's debits are charged to the house account. -/
theorem purgeChannel_costingSound {s : State} (h : s.costing.sound) (v : Nat) (c : ChannelId) :
    (s.purgeChannel v c).costing.sound := by
  unfold State.purgeChannel
  dsimp only
  split
  · exact h
  · exact chargeHouse_costingSound (by simpa using h) _

/-- A fold keeps the ranges where its step does. -/
theorem foldl_costingSound {α : Type} {f : State → α → State}
    (hf : ∀ (s : State) a, s.costing.sound → (f s a).costing.sound) (l : List α) {s : State} (h : s.costing.sound) :
    (l.foldl f s).costing.sound :=
  List.foldlRecOn l f h fun s h a _ => hf s a h

theorem meterSwath_costingSound {s : State} (h : s.costing.sound) (t : TicketId) (counts : Vector DropCounts 12) :
    (s.meterSwath t counts).costing.sound :=
  foldl_costingSound (fun _ c h => meterChannel_costingSound h t counts[c] c) _ h

theorem chargePurge_costingSound {s : State} (h : s.costing.sound) (volumes : Vector Nat 12) :
    (s.chargePurge volumes).costing.sound :=
  foldl_costingSound (fun _ c h => purgeChannel_costingSound h volumes[c] c) _ h

end Sys2Proof.Machine
end

section
/-! PROOF. The ranges and the order over whole requests and events (R43, R64, R65, R79, R117, R153, R157). -/

namespace Sys2Proof.Machine

open Sys2Proof

/-! ## Ranges kept from one state to another -/

/-- What every step keeps of the four blocks under a range or an order, each by itself. -/
structure State.keepsRanges (s t : State) : Prop where
  costing : s.costing.sound → t.costing.sound
  supply : s.supply.sound → t.supply.sound
  colour : s.colour.sound → t.colour.sound
  media : s.media.ordered → t.media.ordered

namespace State.keepsRanges

variable {s t u : State}

theorem trans (h : s.keepsRanges u) (h' : u.keepsRanges t) : s.keepsRanges t :=
  ⟨h'.costing ∘ h.costing, h'.supply ∘ h.supply, h'.colour ∘ h.colour, h'.media ∘ h.media⟩

/-- An operation that leaves the four blocks. -/
theorem of_same (h : t.costing = s.costing ∧ t.supply = s.supply ∧ t.colour = s.colour ∧ t.media = s.media) :
    s.keepsRanges t := by
  obtain ⟨hc, hs, hl, hm⟩ := h
  exact ⟨hc ▸ id, hs ▸ id, hl ▸ id, hm ▸ id⟩

theorem refl (s : State) : s.keepsRanges s := of_same ⟨rfl, rfl, rfl, rfl⟩

/-- An operation that of the four blocks touches one. -/
theorem of_costing (hc : s.costing.sound → t.costing.sound)
    (h : t.supply = s.supply ∧ t.colour = s.colour ∧ t.media = s.media) : s.keepsRanges t := by
  obtain ⟨hs, hl, hm⟩ := h
  exact ⟨hc, hs ▸ id, hl ▸ id, hm ▸ id⟩

theorem of_supply (hs : s.supply.sound → t.supply.sound)
    (h : t.costing = s.costing ∧ t.colour = s.colour ∧ t.media = s.media) : s.keepsRanges t := by
  obtain ⟨hc, hl, hm⟩ := h
  exact ⟨hc ▸ id, hs, hl ▸ id, hm ▸ id⟩

theorem of_colour (hl : s.colour.sound → t.colour.sound)
    (h : t.costing = s.costing ∧ t.supply = s.supply ∧ t.media = s.media) : s.keepsRanges t := by
  obtain ⟨hc, hs, hm⟩ := h
  exact ⟨hc ▸ id, hs ▸ id, hl, hm ▸ id⟩

theorem of_media (hm : s.media.ordered → t.media.ordered)
    (h : t.costing = s.costing ∧ t.supply = s.supply ∧ t.colour = s.colour) : s.keepsRanges t := by
  obtain ⟨hc, hs, hl⟩ := h
  exact ⟨hc ▸ id, hs ▸ id, hl ▸ id, hm⟩

/-- R117: a media path whose stop list stays. -/
theorem of_stops {x : Media} (h : x.stops = s.media.stops) : s.keepsRanges (s.withMedia x) :=
  of_media (fun ho => by rwa [withMedia_media, Media.ordered, h]) (by simp)

/-- The end of an event, over what the event did. -/
theorem settle (h : s.keepsRanges u) (before : State) : s.keepsRanges (u.settle before) :=
  h.trans (of_media (fun ho => settle_ordered ho before) (by simp))

theorem settled (h : s.keepsRanges u) (before : State) (body : ReplyBody) :
    s.keepsRanges (Machine.settled u before body).1 :=
  h.settle before

end State.keepsRanges

/-! ## Stops -/

theorem stopNow_keepsRanges (s : State) (halt : HaltCause) (cause : SpoilCause) : s.keepsRanges (s.stopNow halt cause) where
  costing h := by simpa using h
  supply h := by
    unfold State.stopNow
    split
    · exact h
    · exact writeBackFeeding_supplySound (by simpa using h)
  colour h := by
    unfold State.stopNow
    split
    · exact h
    · simp only [writeBackFeeding_keeps]
      exact stopUnits_colourSound (by simpa using h)
  media h := stopNow_ordered h halt cause

theorem protocolError_keepsRanges (s : State) : s.keepsRanges s.protocolError := by
  unfold State.protocolError
  split
  · exact .refl s
  · exact .trans (u := s.withRun { s.run with protocolError := true }) (.of_same (by simp)) (stopNow_keepsRanges _ _ _)

/-! ## The engine's reports -/

theorem takeFed_keepsRanges (s : State) (served : Option TicketId) (f : Nat) : s.keepsRanges (s.takeFed served f) where
  costing h := by simpa using h
  supply h := by simpa using h
  colour h := takeFed_colourSound h served f
  media h := takeFed_ordered h served f

theorem meterSwath_keepsRanges (s : State) (t : TicketId) (counts : Vector DropCounts 12) :
    s.keepsRanges (s.meterSwath t counts) where
  costing h := meterSwath_costingSound h t counts
  supply h := meterSwath_supplySound h t counts
  colour h := by simpa using h
  media h := by simpa using h

theorem takeSwath_keepsRanges (s : State) (t : TicketId) (f : Nat) (counts : Vector DropCounts 12) :
    s.keepsRanges (s.takeSwath t f counts) := by
  have hm : s.keepsRanges (s.atSwath t) := .of_same (by simp [State.atSwath])
  rw [takeSwath_eq]
  exact ((hm.trans (meterSwath_keepsRanges _ t counts)).trans (takeFed_keepsRanges _ (some t) f)).trans (.of_same (by simp))

/-- R135: a position slip, where there is one. -/
theorem slipIf_keepsRanges {s u : State} (h : s.keepsRanges u) (c : Bool) :
    s.keepsRanges (if c then u.slip else u) := by
  cases c
  · exact h
  · exact h.trans (stopNow_keepsRanges _ _ _)

theorem swathReported_keepsRanges (s : State) (t : TicketId) (a : Nat) (aborted : Bool) (f : Nat)
    (counts : Vector DropCounts 12) : s.keepsRanges (s.swathReported t a aborted f counts) := by
  have ht : s.keepsRanges (if aborted then s.takeSwath t f counts else (s.takeSwath t f counts).owedAfterSwath t a f) := by
    split
    · exact takeSwath_keepsRanges s t f counts
    · exact (takeSwath_keepsRanges s t f counts).trans (.of_same (by simp))
  exact slipIf_keepsRanges ht _

theorem feedReported_keepsRanges (s : State) (asked : Nat) (p : FeedPurpose) (aborted : Bool) (f : Nat) :
    s.keepsRanges (s.feedReported asked p aborted f) := by
  have hp : s.keepsRanges (match p with
      | .owed _ => s.endOp.withEngine (s.endOp.engine.payOwed aborted f)
      | .eject => s.endOp) := by
    cases p <;> exact .of_same (by simp)
  have ht := hp.trans (takeFed_keepsRanges _ (s.engine.servedBy aborted p) f)
  exact slipIf_keepsRanges ht _

theorem purgeReported_keepsRanges (s : State) (set : ChannelSet) (aborted : Bool) (volumes : Vector Nat 12) :
    s.keepsRanges (s.purgeReported set aborted volumes) where
  costing h := by
    simpa [State.purgeReported] using chargePurge_costingSound (by simpa using h) volumes
  supply h := by
    simpa [State.purgeReported] using chargePurge_supplySound (by simpa using h) volumes
  colour h := by simpa [State.purgeReported] using h
  media h := purgeEnded_ordered (by simpa using h) _ _ _

theorem loseOp_keepsRanges (s : State) : s.keepsRanges s.loseOp := .of_same (by simp)

theorem engineRestarted_keepsRanges (s : State) : s.keepsRanges s.engineRestarted :=
  .trans (u := s.loseOp.withEngine { s.loseOp.engine with request := none, owed := none }) (.of_same (by simp))
    (stopNow_keepsRanges _ _ _)

theorem engineStarted_keepsRanges (s : State) : s.keepsRanges s.engineStarted :=
  .of_supply (fun h => writeBackFeeding_supplySound (by simpa using h)) (by simp)

/-! ## The roll lines -/

theorem endActive_keepsRanges (s : State) (r : RollId) (x : Roll) : s.keepsRanges (s.endActive r x) :=
  .trans (u := ((s.setRoll r (some x.ended)).raise .rollEnd).endEject)
    (.of_media (fun h => endEject_ordered (by simpa using setRoll_ordered h r _)) (by simp)) (stopNow_keepsRanges _ _ _)

theorem tailRose_keepsRanges (s : State) (r : RollId) : s.keepsRanges (s.tailRose r) := by
  unfold State.tailRose
  split
  · exact .refl s
  · split
    · exact endActive_keepsRanges s r _
    · exact .of_media (fun h => by simpa using setRoll_ordered h r _) (by simp)
    · exact .refl s

theorem mediaFell_keepsRanges (s : State) (r : RollId) : s.keepsRanges (s.mediaFell r) := by
  unfold State.mediaFell
  split
  · exact .refl s
  · split
    · exact endActive_keepsRanges s r _
    · exact .refl s

/-! ## The sensor's answers -/

theorem calibrationFailed_keepsRanges (s : State) : s.keepsRanges s.calibrationFailed where
  costing h := by simpa using h
  supply h := by simpa using h
  colour h := calibrationFailed_colourSound h
  media h := by
    unfold State.calibrationFailed
    dsimp only
    (repeat' split) <;> simp [h]

theorem attemptFailed_keepsRanges (s : State) : s.keepsRanges s.attemptFailed where
  costing h := by simpa using h
  supply h := by simpa using h
  colour h := attemptFailed_colourSound h
  media h := by
    unfold State.attemptFailed State.readFailed
    dsimp only
    (repeat' split) <;> simp [h]

theorem rowTaken_keepsRanges (s : State) (row : List Lab) : s.keepsRanges (s.rowTaken row) where
  costing h := by simpa using h
  supply h := by simpa using h
  colour h := rowTaken_colourSound h row
  media h := by
    unfold State.rowTaken State.rowRead
    split
    · simpa using h
    · split
      · simpa using h
      · split
        · split <;> simp [h]
        · exact (attemptFailed_keepsRanges s).media h

end Sys2Proof.Machine
end

section
/-! PROOF. Every step keeps the ranges and the order: the requests (R43, R64, R65, R79, R117, R153, R157). -/

namespace Sys2Proof.Machine

open Sys2Proof

/-- R197: a refusal changes nothing. -/
theorem refused_keepsRanges (st : Status) (s : State) : s.keepsRanges (refuse st s).1 := .refl s

/-! ## Requests on editions and tickets -/

theorem reqEditionCreate_keepsRanges (slot : Nat) (p : EditionParams) (s : State) :
    s.keepsRanges (reqEditionCreate slot p s).1 := by
  unfold reqEditionCreate
  (repeat' split) <;> try with_reducible exact refused_keepsRanges _ s
  exact .of_colour (fun h => useSet_colourSound (by simpa using h) _) (by simp)

theorem reqEditionSet_keepsRanges (slot : Nat) (g : BitVec 16) (p : EditionParams) (s : State) :
    s.keepsRanges (reqEditionSet slot g p s).1 := by
  unfold reqEditionSet
  dsimp only
  (repeat' split) <;> try with_reducible exact refused_keepsRanges _ s
  · exact .of_same (by simp)
  · exact .of_colour (fun h => useSet_colourSound (releaseSet_colourSound (by simpa using h) _) _) (by simp)

theorem reqEditionHold_keepsRanges (slot : Nat) (s : State) : s.keepsRanges (reqEditionHold slot s).1 := by
  unfold reqEditionHold
  (repeat' split) <;> try with_reducible exact refused_keepsRanges _ s
  exact .settled (.of_same (by simp)) _ _

theorem reqEditionRelease_keepsRanges (slot : Nat) (s : State) : s.keepsRanges (reqEditionRelease slot s).1 := by
  unfold reqEditionRelease
  dsimp only
  (repeat' split) <;> try with_reducible exact refused_keepsRanges _ s
  · exact .settled (.of_same (by simp)) _ _
  · exact .settled (.of_same (by simp)) _ _

theorem reqEditionClose_keepsRanges (slot : Nat) (s : State) : s.keepsRanges (reqEditionClose slot s).1 := by
  unfold reqEditionClose
  (repeat' split) <;> try with_reducible exact refused_keepsRanges _ s
  exact .settled (.of_same (by simp)) _ _

theorem reqEditionRetire_keepsRanges (slot : Nat) (s : State) : s.keepsRanges (reqEditionRetire slot s).1 := by
  unfold reqEditionRetire
  (repeat' split) <;> try with_reducible exact refused_keepsRanges _ s
  exact .of_colour (fun h => releaseSet_colourSound (by simpa using h) _) (by simp)

theorem reqEditionRestore_keepsRanges (slot : Nat) (r : RestoreRecord) (s : State) :
    s.keepsRanges (reqEditionRestore slot r s).1 := by
  unfold reqEditionRestore
  dsimp only
  (repeat' split) <;> try with_reducible exact refused_keepsRanges _ s
  all_goals
    refine .of_colour (fun h => ?_) (by simp)
    simp only [accept_state, enterQualify_keeps]
    exact useSet_colourSound (by simpa using h) _

theorem reqPrintAdmit_keepsRanges (slot lm li lt : Nat) (s : State) : s.keepsRanges (reqPrintAdmit slot lm li lt s).1 := by
  unfold reqPrintAdmit
  split
  · exact .refl s
  · exact .settled (.of_media (fun h => admissionEvent_ordered (by simpa using h)) (by simp)) _ _

theorem reqTicketCancel_keepsRanges (id : Nat) (s : State) : s.keepsRanges (reqTicketCancel id s).1 := by
  unfold reqTicketCancel
  (repeat' split) <;> try with_reducible exact refused_keepsRanges _ s
  · exact .settled (.of_same (by simp)) _ _
  · exact .settled (.of_media (fun h => cancelPrinting_ordered h _ _ _) (by simp)) _ _

theorem reqTicketCollect_keepsRanges (id : Nat) (s : State) : s.keepsRanges (reqTicketCollect id s).1 := by
  unfold reqTicketCollect
  (repeat' split) <;> try with_reducible exact refused_keepsRanges _ s
  exact .of_same (by simp)

/-! ## Requests on drop volumes, fees and the house account -/

theorem within_clamp {lo hi : Nat} (h : lo ≤ hi) (x : Nat) : within lo hi (clamp lo hi x) = true := by
  simp [within, clamp, h]

/-- R44: the drop volumes are stored clamped. -/
theorem reqDropVolumesSet_keepsRanges (channel a b d : Nat) (s : State) :
    s.keepsRanges (reqDropVolumesSet channel a b d s).1 := by
  unfold reqDropVolumesSet
  split
  · exact .refl s
  · refine .of_costing (fun h => ?_) ⟨rfl, rfl, rfl⟩
    obtain ⟨hr, hv, hrest⟩ := h
    refine ⟨hr, fun i => ?_, hrest⟩
    simp only [accept_state, withCosting_costing, Fin.getElem_fin, put_get]
    split
    · exact ⟨within_clamp (by decide) a, within_clamp (by decide) b, within_clamp (by decide) d⟩
    · exact hv i

/-- R45: the fees are stored clamped. -/
theorem reqFeeSet_keepsRanges (cut check : Nat) (s : State) : s.keepsRanges (reqFeeSet cut check s).1 := by
  refine .of_costing (fun h => ?_) ⟨rfl, rfl, rfl⟩
  obtain ⟨hr, hv, -, -, hh⟩ := h
  exact ⟨hr, hv, min_le_left _ _, min_le_left _ _, hh⟩

theorem reqHouseClear_keepsRanges (s : State) : s.keepsRanges (reqHouseClear s).1 := by
  refine .of_costing (fun h => ?_) ⟨rfl, rfl, rfl⟩
  obtain ⟨hr, hv, hc, hk, -⟩ := h
  exact ⟨hr, hv, hc, hk, show 0 < 2 ^ 64 by decide⟩

/-! ## Requests on tanks and channels -/

theorem reqTankRelease_keepsRanges (slot : Nat) (s : State) : s.keepsRanges (reqTankRelease slot s).1 := by
  unfold reqTankRelease
  (repeat' split) <;> try with_reducible exact refused_keepsRanges _ s
  exact .settled (.of_supply (fun h => release_supplySound h _) (by simp)) _ _

theorem reqTankReread_keepsRanges (slot : Nat) (s : State) : s.keepsRanges (reqTankReread slot s).1 := by
  unfold reqTankReread
  (repeat' split) <;> try with_reducible exact refused_keepsRanges _ s
  exact .settled (.of_supply (fun h => by simpa using setTank_supplySound h _ (fits_reading _)) (by simp)) _ _

/-- R85: a floor and a level are stored only in their ranges. -/
theorem reqChannelSet_keepsRanges (channel floor level : Nat) (s : State) :
    s.keepsRanges (reqChannelSet channel floor level s).1 := by
  unfold reqChannelSet
  split
  · exact .refl s
  · split
    · exact .refl s
    · rename_i c _ hr
      simp only [Bool.or_eq_true, Bool.not_eq_true', decide_eq_true_eq, not_or, Bool.not_eq_false, not_lt] at hr
      refine .settled (.of_supply (fun h => switchTest_supplySound ?_ c) (by simp)) _ _
      simpa using setChannel_supplySound h c (x := { s.channel c with floor := floor, level := level }) hr

theorem reqDateSet_keepsRanges (day : Nat) (s : State) : s.keepsRanges (reqDateSet day s).1 :=
  .settled (.of_supply (fun h => expire_supplySound (by simpa using h) day) (by simp)) _ _

/-! ## Requests on rolls, the path and the cutter -/

theorem reqRollLoad_keepsRanges (roll m w n p : Nat) (s : State) : s.keepsRanges (reqRollLoad roll m w n p s).1 := by
  unfold reqRollLoad
  (repeat' split) <;> try with_reducible exact refused_keepsRanges _ s
  exact .settled (.of_media (fun h => by simpa using setRoll_ordered h _ _) (by simp)) _ _

theorem reqRollSet_keepsRanges (roll : Nat) (g : BitVec 8) (p t : Nat) (s : State) :
    s.keepsRanges (reqRollSet roll g p t s).1 := by
  unfold reqRollSet
  (repeat' split) <;> try with_reducible exact refused_keepsRanges _ s
  exact .of_media (fun h => by simpa using setRoll_ordered h _ _) (by simp)

theorem reqRollSelect_keepsRanges (roll : Nat) (s : State) : s.keepsRanges (reqRollSelect roll s).1 := by
  unfold reqRollSelect
  (repeat' split) <;> try with_reducible exact refused_keepsRanges _ s
  exact .settled (.of_media (fun h => selectRoll_ordered h _ _) (by simp)) _ _

theorem reqRollUnload_keepsRanges (roll : Nat) (s : State) : s.keepsRanges (reqRollUnload roll s).1 := by
  unfold reqRollUnload
  (repeat' split) <;> try with_reducible exact refused_keepsRanges _ s
  exact .settled (.of_media (fun h => endEject_ordered (setRoll_ordered h _ _)) (by simp)) _ _

theorem reqEjectDelaySet_keepsRanges (d : Nat) (s : State) : s.keepsRanges (reqEjectDelaySet d s).1 := by
  refine .settled (.of_stops ?_) _ _
  rfl

theorem reqEject_keepsRanges (s : State) : s.keepsRanges (reqEject s).1 := by
  unfold reqEject
  (repeat' split) <;> try with_reducible exact refused_keepsRanges _ s
  refine .settled (.of_stops ?_) _ _
  rfl

theorem endCut_keepsRanges (s : State) (c : HeldCut) : s.keepsRanges (s.endCut c) where
  costing h := endCut_costingSound h c
  supply h := by simpa using h
  colour h := by simpa using h
  media h := endCut_ordered h c

theorem reqCutterClearMade_keepsRanges (s : State) : s.keepsRanges (reqCutterClearMade s).1 := by
  unfold reqCutterClearMade
  split
  · exact .settled (.trans (u := s.sideTaken) (.of_same (by simp)) (endCut_keepsRanges _ _)) _ _
  · exact .refl s

theorem reqCutterClearRetry_keepsRanges (s : State) : s.keepsRanges (reqCutterClearRetry s).1 := by
  unfold reqCutterClearRetry
  split
  · exact .settled (.of_same (by simp)) _ _
  · exact .refl s

theorem reqBladeFit_keepsRanges (life : Nat) (s : State) : s.keepsRanges (reqBladeFit life s).1 := by
  unfold reqBladeFit
  (repeat' split) <;> try with_reducible exact refused_keepsRanges _ s
  exact .settled (.of_same (by simp)) _ _

/-! ## Requests on the colour check unit -/

/-- R154: a set is loaded with at most 24 targets. -/
theorem reqRefsetLoad_keepsRanges (set count : Nat) (ts : List Lab) (s : State) :
    s.keepsRanges (reqRefsetLoad set count ts s).1 := by
  unfold reqRefsetLoad
  (repeat' split) <;> try with_reducible exact refused_keepsRanges _ s
  rename_i hr
  simp only [within, Bool.or_eq_true, Bool.not_eq_true', Bool.and_eq_false_iff, decide_eq_false_iff_not,
    bne_iff_ne, not_or, not_not] at hr
  refine .of_colour (fun h => setRefset_colourSound h _ ?_) (by simp)
  simp only [List.length_map]
  omega

theorem reqRefsetClear_keepsRanges (set : Nat) (s : State) : s.keepsRanges (reqRefsetClear set s).1 := by
  unfold reqRefsetClear
  (repeat' split) <;> try with_reducible exact refused_keepsRanges _ s
  exact .of_colour (fun h => setRefset_colourSound h _ (Nat.zero_le _)) (by simp)

theorem reqSensorReset_keepsRanges (s : State) : s.keepsRanges (reqSensorReset s).1 := by
  unfold reqSensorReset
  split
  · exact .refl s
  · refine .of_colour (fun h => ?_) ⟨rfl, rfl, rfl⟩
    obtain ⟨-, he, ht⟩ := h
    exact ⟨Nat.zero_le _, he, ht⟩

/-! ## Requests on the run and the notices -/

theorem reqPurgeVolumesSet_keepsRanges (level : Nat) (v : Vector Nat 12) (s : State) :
    s.keepsRanges (reqPurgeVolumesSet level v s).1 := by
  unfold reqPurgeVolumesSet
  dsimp only
  split <;> exact .of_same (by simp)

theorem reqPurge_keepsRanges (channels : BitVec 16) (level : Nat) (s : State) :
    s.keepsRanges (reqPurge channels level s).1 := by
  unfold reqPurge
  (repeat' split) <;> try with_reducible exact refused_keepsRanges _ s
  exact .settled (.of_same (by simp)) _ _

theorem reqStopDrain_keepsRanges (s : State) : s.keepsRanges (reqStopDrain s).1 := by
  unfold reqStopDrain
  split <;> try with_reducible exact refused_keepsRanges _ s
  · exact .settled (.of_media (fun h => drainEject_ordered (by simpa using h)) (by simp)) _ _
  · exact .of_same (by simp)
  all_goals exact .refl s

theorem reqStopNow_keepsRanges (s : State) : s.keepsRanges (reqStopNow s).1 := by
  unfold reqStopNow
  split
  · exact .refl s
  · exact .settled (stopNow_keepsRanges s _ _) _ _

theorem leaveHalt_keepsRanges (s : State) : s.keepsRanges s.leaveHalt := by
  unfold State.leaveHalt
  split
  · exact .of_same (by simp)
  · exact .of_supply (fun h => writeBackFeeding_supplySound (by simpa using h)) (by simp)
  · exact .of_same (by simp)

theorem clearPath_keepsRanges (s : State) : s.keepsRanges s.clearPath := ⟨id, id, id, id⟩

theorem reqResume_keepsRanges (cleared : Bool) (s : State) : s.keepsRanges (reqResume cleared s).1 := by
  unfold reqResume
  (repeat' split) <;> try with_reducible exact refused_keepsRanges _ s
  · exact .settled ((clearPath_keepsRanges s).trans (leaveHalt_keepsRanges _)) _ _
  · exact .settled (.of_media (fun h => enterRunning_ordered (by simpa using h)) (by simp)) _ _
  · exact .settled (.of_same (by simp)) _ _
  · exact .settled (.of_same (by simp)) _ _

theorem reqNoticeClear_keepsRanges (kinds : BitVec 24) (s : State) : s.keepsRanges (reqNoticeClear kinds s).1 := by
  unfold reqNoticeClear
  dsimp only
  split <;> exact .of_same (by simp)

theorem reqLinkSet_keepsRanges (limit : Option Nat) (s : State) : s.keepsRanges (reqLinkSet limit s).1 := by
  cases limit <;> exact .of_same (by simp [reqLinkSet])

/-- R190: whichever block a request goes to, it keeps the ranges and the order. -/
theorem handle_keepsRanges (r : Request) (s : State) : s.keepsRanges (handle r s).1 := by
  cases r with
  | editionCreate => exact reqEditionCreate_keepsRanges _ _ s
  | editionSet => exact reqEditionSet_keepsRanges _ _ _ s
  | editionHold => exact reqEditionHold_keepsRanges _ s
  | editionRelease => exact reqEditionRelease_keepsRanges _ s
  | editionClose => exact reqEditionClose_keepsRanges _ s
  | editionRetire => exact reqEditionRetire_keepsRanges _ s
  | editionRestore => exact reqEditionRestore_keepsRanges _ _ s
  | printAdmit => exact reqPrintAdmit_keepsRanges _ _ _ _ s
  | ticketCancel => exact reqTicketCancel_keepsRanges _ s
  | ticketCollect => exact reqTicketCollect_keepsRanges _ s
  | dropVolumesSet => exact reqDropVolumesSet_keepsRanges _ _ _ _ s
  | feeSet => exact reqFeeSet_keepsRanges _ _ s
  | houseClear => exact reqHouseClear_keepsRanges s
  | tankRelease => exact reqTankRelease_keepsRanges _ s
  | tankReread => exact reqTankReread_keepsRanges _ s
  | channelSet => exact reqChannelSet_keepsRanges _ _ _ s
  | rollLoad => exact reqRollLoad_keepsRanges _ _ _ _ _ s
  | rollSet => exact reqRollSet_keepsRanges _ _ _ _ s
  | rollSelect => exact reqRollSelect_keepsRanges _ s
  | rollUnload => exact reqRollUnload_keepsRanges _ s
  | ejectDelaySet => exact reqEjectDelaySet_keepsRanges _ s
  | eject => exact reqEject_keepsRanges s
  | cutterClearMade => exact reqCutterClearMade_keepsRanges s
  | cutterClearRetry => exact reqCutterClearRetry_keepsRanges s
  | bladeFit => exact reqBladeFit_keepsRanges _ s
  | refsetLoad => exact reqRefsetLoad_keepsRanges _ _ _ s
  | refsetClear => exact reqRefsetClear_keepsRanges _ s
  | sensorReset => exact reqSensorReset_keepsRanges s
  | purgeVolumesSet => exact reqPurgeVolumesSet_keepsRanges _ _ s
  | purge => exact reqPurge_keepsRanges _ _ s
  | stopDrain => exact reqStopDrain_keepsRanges s
  | stopNow => exact reqStopNow_keepsRanges s
  | resume => exact reqResume_keepsRanges _ s
  | noticeClear => exact reqNoticeClear_keepsRanges _ s
  | dateSet => exact reqDateSet_keepsRanges _ s
  | linkSet => exact reqLinkSet_keepsRanges _ s
  | editionGet | editionFind | ticketGet | tankGet | channelGet | rollGet | refsetGet =>
    simp only [handle, reqEditionGet, reqEditionFind, reqTicketGet, reqTankGet, reqChannelGet, reqRollGet, reqRefsetGet]
    split <;> exact .refl s
  | _ => exact ⟨id, id, id, id⟩

end Sys2Proof.Machine
end

section
/-! PROOF. Every step keeps the ranges and the order: the events and the step (R43, R64, R65, R79, R117, R153,
R157). -/

namespace Sys2Proof.Machine

open Sys2Proof

/-! ## The command link -/

theorem begin_keepsRanges (s : State) : s.keepsRanges s.begin := .of_same (by simp)

theorem executeRequest_keepsRanges (tag : Nat) (r : Request) (s : State) : s.keepsRanges (executeRequest tag r s) := by
  obtain ⟨⟨-, hsame⟩, -, -⟩ := answerWith_answers (handle r (s.reload .byRequest)).1 tag s.link.limit
    (handle r (s.reload .byRequest)).2.status (handle r (s.reload .byRequest)).2.body
  refine .trans (u := s.reload .byRequest) (.of_same (by simp)) ((handle_keepsRanges r _).trans (.of_same ?_))
  exact ⟨hsame .costing (by decide), hsame .supply (by decide), hsame .colour (by decide), hsame .media (by decide)⟩

theorem runFrames_keepsRanges (n : Nat) (s : State) : s.keepsRanges (runFrames n s) := by
  induction n generalizing s with
  | zero => exact .refl s
  | succ n ih =>
    unfold runFrames
    split
    · exact .refl s
    · rename_i f fs hc
      split
      · exact .trans (u := s.withLink { s.link with command := fs }) (.of_same (by simp))
          ((executeRequest_keepsRanges _ _ _).trans (ih _))
      · exact .refl s

theorem discardFrame_keepsRanges (s : State) (e : LinkError) : s.keepsRanges (s.discardFrame e) :=
  .of_same (by simp [State.discardFrame])

theorem acceptFrame_keepsRanges (s : State) (f : QueuedFrame) : s.keepsRanges (s.acceptFrame f) :=
  .trans (u := s.withLink { s.link with command := s.link.command ++ [f] }) (.of_same (by simp))
    (runFrames_keepsRanges _ _)

theorem deliver_keepsRanges (tag : Nat) (r : Request) (s : State) : s.keepsRanges (deliver tag r s) := by
  refine (begin_keepsRanges s).trans ?_
  unfold deliver
  dsimp only
  split
  · exact acceptFrame_keepsRanges _ _
  · exact discardFrame_keepsRanges _ _

theorem selectRise_keepsRanges (s : State) : s.keepsRanges (selectRise s) := by
  refine (begin_keepsRanges s).trans ?_
  unfold selectRise
  dsimp only
  split
  · exact .refl _
  · refine .trans (u := s.begin.withLink { s.begin.link with receipt := none }) (.of_same (by simp)) ?_
    split
    · exact .refl _
    · split
      · exact discardFrame_keepsRanges _ _
      · exact acceptFrame_keepsRanges _ _

theorem placeReplyFrame_keepsRanges (s : State) : s.keepsRanges (placeReplyFrame s) :=
  .trans (u := s.begin.place) (.of_same (by simp)) (runFrames_keepsRanges _ _)

theorem clockByte_keepsRanges (b : Byte) (s : State) : s.keepsRanges (clockByte b s) := by
  refine .trans (.of_same ?_) (runFrames_keepsRanges _ _)
  simp

/-! ## Reset -/

theorem blank_supplySound (s : State) : s.blank.supply.sound := by
  refine (supply_sound_iff _).mpr ⟨fun t => blank_tank s t ▸ fits_empty, fun c => ?_⟩
  have hc : s.blank.channel c = Channel.reset := Vector.getElem_replicate _
  rw [hc]
  exact (by decide : within 1 100 30 = true ∧ 2 ≤ 30)

/-- R186: the reset records stand in their ranges, and the seating of tanks keeps them there. -/
theorem resetPart_keepsRanges (s : State) : s.keepsRanges (resetPart s) := by
  have hseated : resetPart s = s.blank.seatPresent.serveTags := rfl
  rw [hseated]
  refine ⟨fun _ => ?_, fun _ => ?_, fun _ => ?_, fun _ => ?_⟩ <;> simp only [serveTags_keeps, seatPresent_keeps]
  · exact (by simp [Costing.sound, Costing.reset, within] : Costing.reset.sound)
  · exact seatPresent_supplySound (blank_supplySound s)
  · exact (by simp [Colour.sound, Colour.reset] : Colour.reset.sound)
  · exact ⟨List.Pairwise.nil, nofun⟩

/-! ## The engine's messages and timer -/

theorem protocolError_settle_keepsRanges (s : State) : s.keepsRanges (s.protocolError.settle s) :=
  (protocolError_keepsRanges s).settle s

theorem engineReadied_keepsRanges (s : State) : s.keepsRanges (engineReadied s) := by
  unfold engineReadied
  split
  · exact (engineStarted_keepsRanges s).settle s
  · exact (engineRestarted_keepsRanges s).settle s

theorem swathRequested_keepsRanges (t step : Nat) (s : State) : s.keepsRanges (swathRequested t step s) := by
  unfold swathRequested
  split
  · exact protocolError_settle_keepsRanges s
  · split
    · exact protocolError_settle_keepsRanges s
    · split
      · exact .of_same (by simp)
      · split
        · exact protocolError_settle_keepsRanges s
        · exact .settle (.of_same (by simp)) s

theorem swathDone_keepsRanges (t f : Nat) (counts : Vector DropCounts 12) (s : State) :
    s.keepsRanges (swathDone t f counts s) := by
  unfold swathDone
  split
  · split
    · exact (swathReported_keepsRanges s _ _ _ _ _).settle s
    · exact protocolError_settle_keepsRanges s
  · exact protocolError_settle_keepsRanges s

theorem feedDone_keepsRanges (f : Nat) (s : State) : s.keepsRanges (feedDone f s) := by
  unfold feedDone
  split
  · exact (feedReported_keepsRanges s _ _ _ _).settle s
  · exact protocolError_settle_keepsRanges s

theorem purgeDone_keepsRanges (v : Vector Nat 12) (s : State) : s.keepsRanges (purgeDone v s) := by
  unfold purgeDone
  split
  · exact (purgeReported_keepsRanges s _ _ _).settle s
  · exact protocolError_settle_keepsRanges s

theorem parkDone_keepsRanges (s : State) : s.keepsRanges (parkDone s) := by
  unfold parkDone
  split
  · exact .settle (.of_same (by simp)) s
  · exact protocolError_settle_keepsRanges s

theorem capDone_keepsRanges (s : State) : s.keepsRanges (capDone s) := by
  unfold capDone
  split
  · exact .settle (.of_same (by simp)) s
  · exact protocolError_settle_keepsRanges s

theorem uncapDone_keepsRanges (s : State) : s.keepsRanges (uncapDone s) := by
  unfold uncapDone
  split
  · exact .settle (.of_same (by simp)) s
  · exact protocolError_settle_keepsRanges s

theorem engineFaulted_keepsRanges (code : Nat) (s : State) : s.keepsRanges (engineFaulted code s) :=
  .settle (.trans (u := (s.withEngine { s.engine with lastFault := some code }).raise .engineFault)
    (.of_same (by simp)) (stopNow_keepsRanges _ _ _)) s

theorem swathTimerExpired_keepsRanges (s : State) : s.keepsRanges (swathTimerExpired s) := by
  unfold swathTimerExpired
  split
  · split
    · exact .settle (.of_same (by simp)) s
    · exact .settle (.trans (u := s.raise .engineFault) (.of_same (by simp)) (stopNow_keepsRanges _ _ _)) s
  · exact .refl s

/-! ## Tickets, channels, tanks and the tag bus -/

theorem pauseExpired_keepsRanges (t : TicketId) (s : State) : s.keepsRanges (pauseExpired t s) := by
  unfold pauseExpired
  split
  · exact .refl s
  · split
    · exact .settle (.of_media (fun h => cancelPrinting_ordered h _ _ _) (by simp)) s
    · exact .refl s

theorem switchExpired_keepsRanges (c : ChannelId) (s : State) : s.keepsRanges (switchExpired c s) := by
  unfold switchExpired
  split
  · exact .settle (.of_supply (fun h => completeSwitch_supplySound h c _) (by simp)) s
  · exact .refl s

theorem presenceRose_keepsRanges (t : TankId) (s : State) : s.keepsRanges (presenceRose t s) :=
  .settle (.of_supply (fun h => seatTank_supplySound (setPresence_supplySound h t true) t) (by simp)) s

theorem presenceFell_keepsRanges (t : TankId) (s : State) : s.keepsRanges (presenceFell t s) :=
  .settle (.of_supply (fun h => removeTank_supplySound (setPresence_supplySound h t false) t) (by simp)) s

theorem requestSentEvent_keepsRanges (s : State) : s.keepsRanges (requestSentEvent s) := by
  unfold requestSentEvent
  split
  · exact .of_same (by simp)
  · exact .refl s

theorem tagAnswerEvent_keepsRanges (frame : List Byte) (s : State) : s.keepsRanges (tagAnswerEvent frame s) := by
  unfold tagAnswerEvent
  split
  · exact .settle (.of_supply (fun h => answered_supplySound h _ _) (by simp)) s
  · exact .refl s

theorem turnaroundExpired_keepsRanges (begun : Bool) (s : State) : s.keepsRanges (turnaroundExpired begun s) := by
  unfold turnaroundExpired
  split
  · exact .settle (.of_supply (fun h => missed_supplySound h _ _) (by simp)) s
  · exact .refl s

theorem guardExpired_keepsRanges (s : State) : s.keepsRanges (guardExpired s) := by
  unfold guardExpired
  split
  · exact .settle (.of_same (by simp)) s
  · exact .refl s

/-! ## The roll lines, the eject and the cutter -/

theorem setRollEnd_keepsRanges (s : State) (r : RollId) (level : Bool) : s.keepsRanges (s.setRollEnd r level) :=
  ⟨id, id, id, id⟩

theorem setMediaPresent_keepsRanges (s : State) (r : RollId) (level : Bool) :
    s.keepsRanges (s.setMediaPresent r level) :=
  ⟨id, id, id, id⟩

theorem rollEndLineRose_keepsRanges (r : RollId) (s : State) : s.keepsRanges (rollEndLineRose r s) :=
  ((setRollEnd_keepsRanges s r true).trans (tailRose_keepsRanges _ r)).settle s

theorem mediaPresentFell_keepsRanges (r : RollId) (s : State) : s.keepsRanges (mediaPresentFell r s) :=
  ((setMediaPresent_keepsRanges s r false).trans (mediaFell_keepsRanges _ r)).settle s

theorem ejectTimerExpired_keepsRanges (s : State) : s.keepsRanges (ejectTimerExpired s) := by
  unfold ejectTimerExpired
  split
  · exact .refl s
  · refine .settle (.of_stops ?_) s
    rfl

theorem cutterLineRose_keepsRanges (x : CarriageEnd) (s : State) : s.keepsRanges (cutterLineRose x s) := by
  have hl : s.keepsRanges (s.setCutterLine x true) := .of_same (by simp)
  refine (hl.trans ⟨fun h => carriageAt_costingSound h x, fun h => ?_, fun h => ?_, fun h => carriageAt_ordered h x⟩).settle s
  · simpa using h
  · simpa using h

theorem cutTimerExpired_keepsRanges (s : State) : s.keepsRanges (cutTimerExpired s) := by
  unfold cutTimerExpired
  split
  · exact .settle (.of_same (by simp)) s
  · exact .refl s

/-! ## The sensor and the idle timers -/

theorem calDone_keepsRanges (x : Nat) (ok : Bool) (s : State) : s.keepsRanges (calDone x ok s) := by
  unfold calDone
  split
  · split
    · exact .settle (.of_colour (fun h => calibrated_colourSound h) (by simp)) s
    · exact (calibrationFailed_keepsRanges s).settle s
  · exact .refl s

theorem resultTaken_keepsRanges (x : Nat) (row : List Lab) (s : State) : s.keepsRanges (resultTaken x row s) := by
  unfold resultTaken
  split
  · exact (rowTaken_keepsRanges s row).settle s
  · exact .refl s

theorem sensorErrorTaken_keepsRanges (x code : Nat) (s : State) : s.keepsRanges (sensorErrorTaken x code s) := by
  unfold sensorErrorTaken
  split
  · have he : s.keepsRanges (s.withColour { s.colour with lastError := some code }) := ⟨id, id, id, id⟩
    exact (he.trans (attemptFailed_keepsRanges _)).settle s
  · exact .refl s

theorem sensorTimerExpired_keepsRanges (s : State) : s.keepsRanges (sensorTimerExpired s) := by
  unfold sensorTimerExpired
  split
  · exact (calibrationFailed_keepsRanges s).settle s
  · exact (attemptFailed_keepsRanges s).settle s
  · exact .refl s

theorem settleEnds_media (s : State) : s.settleEnds.media = s.media := by
  unfold State.settleEnds
  dsimp only
  (repeat' split) <;> rfl

theorem settleTimerExpired_keepsRanges (s : State) : s.keepsRanges (settleTimerExpired s) := by
  unfold settleTimerExpired
  split
  · exact .refl s
  · exact .settle (.of_colour (fun h => settleEnds_colourSound h) (by simp [settleEnds_media])) s

theorem dozeTimerExpired_keepsRanges (s : State) : s.keepsRanges (dozeTimerExpired s) := by
  unfold dozeTimerExpired
  split
  · exact .refl s
  · exact .settle (.of_same (by simp)) s

theorem capTimerExpired_keepsRanges (s : State) : s.keepsRanges (capTimerExpired s) := by
  unfold capTimerExpired
  split
  · exact .refl s
  · exact .settle (.of_supply (fun h => writeBackFeeding_supplySound (by simpa using h)) (by simp)) s

/-! ## The step -/

/-- An event begins with nothing sent. -/
theorem event_keepsRanges {f : State → State} (h : ∀ s : State, s.keepsRanges (f s)) (s : State) :
    s.keepsRanges (f s.begin) :=
  (begin_keepsRanges s).trans (h _)

/-- Whichever command is executed, the ranges and the order are kept. -/
theorem exec_keepsRanges (c : Instr) (s t : State) (h : exec c s = .next t) : s.keepsRanges t := by
  cases hr : requestOf c with
  | some q =>
    rw [exec_request hr] at h
    cases h
    exact deliver_keepsRanges _ _ _
  | none =>
    cases c with
    | reset => exact Host.Outcome.next.inj h ▸ resetPart_keepsRanges s
    | frameReceive => cases h; exact selectRise_keepsRanges s
    | replyFramePlace => cases h; exact placeReplyFrame_keepsRanges s
    | byteClocked b => cases h; exact clockByte_keepsRanges b s
    | engineReady => cases h; exact event_keepsRanges engineReadied_keepsRanges s
    | swathRequest t step => cases h; exact event_keepsRanges (swathRequested_keepsRanges t step) s
    | swathDone t f n => cases h; exact event_keepsRanges (swathDone_keepsRanges t f n) s
    | feedDone f => cases h; exact event_keepsRanges (feedDone_keepsRanges f) s
    | purgeDone v => cases h; exact event_keepsRanges (purgeDone_keepsRanges v) s
    | parkDone => cases h; exact event_keepsRanges parkDone_keepsRanges s
    | capDone => cases h; exact event_keepsRanges capDone_keepsRanges s
    | uncapDone => cases h; exact event_keepsRanges uncapDone_keepsRanges s
    | engineFault code => cases h; exact event_keepsRanges (engineFaulted_keepsRanges code) s
    | engineFrameInvalid => cases h; exact event_keepsRanges protocolError_settle_keepsRanges s
    | swathTimerExpiry => cases h; exact event_keepsRanges swathTimerExpired_keepsRanges s
    | pauseExpiry t => cases h; exact event_keepsRanges (pauseExpired_keepsRanges t) s
    | switchTimerExpiry c => cases h; exact event_keepsRanges (switchExpired_keepsRanges c) s
    | presenceRise t => cases h; exact event_keepsRanges (presenceRose_keepsRanges t) s
    | presenceFall t => cases h; exact event_keepsRanges (presenceFell_keepsRanges t) s
    | requestSent => cases h; exact event_keepsRanges requestSentEvent_keepsRanges s
    | tagAnswer frame => cases h; exact event_keepsRanges (tagAnswerEvent_keepsRanges frame) s
    | turnaroundExpiry begun => cases h; exact event_keepsRanges (turnaroundExpired_keepsRanges begun) s
    | guardExpiry => cases h; exact event_keepsRanges guardExpired_keepsRanges s
    | rollEndLineRise r => cases h; exact event_keepsRanges (rollEndLineRose_keepsRanges r) s
    | rollEndLineFall r => cases h; exact event_keepsRanges (setRollEnd_keepsRanges · r false) s
    | mediaPresentFall r => cases h; exact event_keepsRanges (mediaPresentFell_keepsRanges r) s
    | mediaPresentRise r => cases h; exact event_keepsRanges (setMediaPresent_keepsRanges · r true) s
    | ejectTimerExpiry => cases h; exact event_keepsRanges ejectTimerExpired_keepsRanges s
    | homeLineRise => cases h; exact event_keepsRanges (cutterLineRose_keepsRanges .homeEnd) s
    | endLineRise => cases h; exact event_keepsRanges (cutterLineRose_keepsRanges .farEnd) s
    | cutTimerExpiry => cases h; exact event_keepsRanges cutTimerExpired_keepsRanges s
    | cutterLineFall x => cases h; exact .of_same (by simp [cutterLineFell])
    | calDone x ok => cases h; exact event_keepsRanges (calDone_keepsRanges x ok) s
    | result x row => cases h; exact event_keepsRanges (resultTaken_keepsRanges x row) s
    | sensorError x code => cases h; exact event_keepsRanges (sensorErrorTaken_keepsRanges x code) s
    | sensorTimerExpiry => cases h; exact event_keepsRanges sensorTimerExpired_keepsRanges s
    | settleTimerExpiry => cases h; exact event_keepsRanges settleTimerExpired_keepsRanges s
    | sensorFrameInvalid => cases h; exact begin_keepsRanges s
    | dozeTimerExpiry => cases h; exact event_keepsRanges dozeTimerExpired_keepsRanges s
    | capTimerExpiry => cases h; exact event_keepsRanges capTimerExpired_keepsRanges s
    | _ => exact nomatch hr

/-- A millisecond moves timers alone. -/
theorem countDown_keepsRanges (s : State) : s.keepsRanges s.countDown := by
  have hx : s.countDown.supply = { s.supply with channels := Vector.ofFn fun c => s.supply.channels[c].down } := by
    simp [State.countDown]
  have hl : s.countDown.colour = { s.colour with timer := down s.colour.timer, settle := down s.colour.settle } := by
    simp [State.countDown]
  have hm : s.countDown.media = { s.media with ejectTimer := down s.media.ejectTimer } := by
    simp [State.countDown]
  refine ⟨?_, fun h => ?_, ?_, ?_⟩
  · simp [State.countDown]
  · rw [hx]
    obtain ⟨ht, hc⟩ := h
    refine ⟨ht, fun c => ?_⟩
    have hl := hc c
    simp only [Fin.getElem_fin, Vector.getElem_ofFn]
    unfold Channel.down
    split <;> exact hl
  · rw [hl]
    exact id
  · rw [hm]
    exact id

theorem step_keepsRanges (s t : State) (h : step s = .next t) : s.keepsRanges t := by
  unfold step at h
  split at h
  · unfold idleStep at h
    split at h
    · exact exec_keepsRanges _ s t h
    · cases h
      exact (begin_keepsRanges s).trans (countDown_keepsRanges _)
  · exact .trans (u := s.withPending _) (.of_same (by simp)) (exec_keepsRanges _ _ t h)

/-- Settles O58: each step keeps each block's law by itself. -/
theorem recordsStayInRange : Obligations.RecordsStayInRange := by
  refine ⟨fun s t hc hs hl h => ?_, fun s t hm h => (step_keepsRanges s t h).media hm⟩
  have hk := step_keepsRanges s t h
  exact ⟨hk.costing hc, hk.supply hs, hk.colour hl⟩

end Sys2Proof.Machine
end

section
/-! PROOF. The fees and the house account (R45, R62, R63). -/

namespace Sys2Proof.Machine

open Sys2Proof

/-- R45: the fees are clamped and replaced together. -/
theorem handle_feeSet (cut check : Nat) (s : State) :
    handle (.feeSet cut check) s =
      (s.withCosting { s.costing with cutFee := min cut 1000000, checkFee := min check 1000000 },
        ⟨.ok, .fees (min cut 1000000) (min check 1000000)⟩) := by
  rw [Nat.min_comm cut, Nat.min_comm check]
  rfl

/-- R63: the account is reported as it was, and emptied. -/
theorem handle_houseClear (s : State) :
    handle .houseClear s =
      (s.withCosting { s.costing with house := 0, houseSaturated := false },
        ⟨.ok, .house (s.costing.house / 1000000 + (if 500000 ≤ s.costing.house % 1000000 then 1 else 0))
          (s.costing.house % 1000000) s.costing.houseSaturated⟩) := rfl

/-- Settles O12: each request's block answers with what it stored or emptied. -/
theorem feesAndTheHouseAccount : Obligations.FeesAndTheHouseAccount := by
  have hc : ∀ s : State, s.asked.costing = s.costing := fun s => (asked_keeps s).2.2.1
  refine ⟨fun tag cut check s h => exec_answers rfl h ?_, fun tag s h => exec_answers rfl h ?_⟩
  · rw [handle_feeSet, hc]
  · rw [handle_houseClear, hc]

end Sys2Proof.Machine
end

section
/-! PROOF. The ends of a measurement (R56, R162 to R166, R168; log entry 44: a discarded read writes nothing). -/

namespace Sys2Proof.Machine

open Sys2Proof

/-! ## A read that is judged -/

/-- R56, R166: a judged read as its ticket keeps it, the check fee charged. -/
def Ticket.judgedRead (k : Ticket) (v : Verdict) (dm da fee : Nat) : Ticket :=
  { k with verdict := v, deMax := some dm, deMean := some da, fees := k.fees + fee }

theorem endRead_judged_desk (s : State) (t : TicketId) (k : Ticket) (hk : s.ticket t = some k) (v : Verdict) (dm da : Nat) :
    (s.endRead t (.judged v dm da)).desk = (s.setTicket t (k.judgedRead v dm da s.costing.checkFee)).desk := by
  have hv : (s.writeVerdict t (.judged v dm da)).desk =
      (s.setTicket t { k with verdict := v, deMax := some dm, deMean := some da }).desk := by
    simp [State.writeVerdict, hk]
  have hw : (s.writeVerdict t (.judged v dm da)).ticket t =
      some { k with verdict := v, deMax := some dm, deMean := some da } := by
    rw [ticket_of_desk hv, setTicket_ticket_self]
  simp only [State.endRead, State.checkFee, removeAction_keeps, State.chargeFee, modTicket_some hw, writeVerdict_keeps]
  rw [setTicket_desk hv, setTicket_setTicket_desk]
  rfl

theorem endRead_judged_notices (s : State) (t : TicketId) (k : Ticket) (hk : s.ticket t = some k) (v : Verdict)
    (dm da : Nat) : (s.endRead t (.judged v dm da)).notices = { s.notices with pending :=
      if v = .warn ∧ (k.state = .printing ∨ k.state = .travelling) then s.notices.pending ||| 1#18 <<< 4
      else s.notices.pending } := by
  simp only [State.endRead, State.checkFee, removeAction_keeps, chargeFee_keeps, State.writeVerdict, hk, State.raiseIf,
    Bool.and_eq_true, Bool.or_eq_true, beq_iff_eq]
  split <;> rfl

/-- R118, R166: the end of a read takes its handed action off the stop list. -/
theorem endRead_placed (s : State) (t : TicketId) (e : ReadEnd) : (s.endRead t e).media.placed =
    s.media.placed.filter fun a => !(a.2.handed && a.2.kind == .patchRead && a.2.ticket == t) := by
  rw [State.endRead, (removeAction_media _ _ t).2]
  simp

/-! ## The sensor's answers to a measurement -/

section
variable {s : State} (hs : s.colour.settle = none) (hm : s.colour.sensor = .measuring)
include hm

theorem exec_sensorTimerExpiry_measuring (ht : s.colour.timer ≠ none) :
    exec .sensorTimerExpiry s = .next (s.begin.attemptFailed.settle s.begin) := by
  obtain ⟨n, hn⟩ := Option.ne_none_iff_exists'.mp ht
  show Host.Outcome.next (sensorTimerExpired s.begin) = _
  simp only [sensorTimerExpired, begin_keeps, hn, hm]

include hs

/-- R158: an answer that carries the exchange number of the measurement is current. -/
theorem current_measuring : s.begin.colour.current .measuring s.colour.exchange = true := by
  simp [Colour.current, hs, hm]

theorem exec_result_measuring (row : List Lab) :
    exec (.result s.colour.exchange row) s = .next ((s.begin.rowTaken row).settle s.begin) :=
  congrArg Host.Outcome.next (if_pos (current_measuring hs hm))

theorem exec_sensorError_measuring (code : Nat) : exec (.sensorError s.colour.exchange code) s =
    .next (((s.begin.withColour { s.colour with lastError := some code }).attemptFailed).settle s.begin) :=
  congrArg Host.Outcome.next (if_pos (current_measuring hs hm))

end

/-! ## How an attempt ends -/

section
variable {s : State} {h : HeldRead} (hh : s.colour.held = some h)
include hh

theorem rowTaken_discarded (hd : h.discard = true) (row : List Lab) : s.rowTaken row = s.sensorEnds .idle := by
  simp only [State.rowTaken, hh, hd, if_true]

theorem rowTaken_judged (hd : h.discard = false) {row : List Lab} (hl : row.length = h.patches) {k : Ticket}
    (hk : s.ticket h.ticket = some k) :
    s.rowTaken row = (s.sensorEnds .idle).endRead h.ticket (judgeRow k row h.targets) := by
  simp only [State.rowTaken, State.rowRead, hh, hd, hl, hk, if_true, Bool.false_eq_true, if_false]

theorem rowTaken_short (hd : h.discard = false) {row : List Lab} (hl : row.length ≠ h.patches) :
    s.rowTaken row = s.attemptFailed := by
  simp only [State.rowTaken, hh, hd, hl, Bool.false_eq_true, if_false]

theorem attemptFailed_first (hd : h.discard = false) (hr : h.retry = false) : s.attemptFailed =
    (s.withColour { s.colour with held := some { h with retry := true } }).sendMeasure h.patches := by
  simp only [State.attemptFailed, hh, hd, hr, Bool.false_eq_true, if_false]

theorem attemptFailed_second (hd : h.discard = false) (hr : h.retry = true) : s.attemptFailed = s.readFailed h := by
  simp only [State.attemptFailed, hh, hd, hr, Bool.false_eq_true, if_false, if_true]

end

/-- R162: MEASURE is sent again, of the same patches. -/
def State.measuresAgain (s : State) (h : HeldRead) : State :=
  (s.begin.withColour { s.colour with
    held := some { h with retry := true }, exchange := (s.colour.exchange + 1) % 256,
    calCount := min 50 (s.colour.calCount + 1), timer := some 3000 }).withOut
      [.sensor (.measure ((s.colour.exchange + 1) % 256) h.patches)]

theorem attemptFailed_measuresAgain {s : State} {h : HeldRead} (hm : s.colour.sensor = .measuring)
    (hh : s.colour.held = some h) (hd : h.discard = false) (hr : h.retry = false) :
    s.begin.attemptFailed = s.measuresAgain h := by
  rw [attemptFailed_first (s := s.begin) hh hd hr]
  unfold State.sendMeasure State.measuresAgain
  dsimp only
  rw [satAdd_eq_min, ← hm]
  rfl

/-- R166: a read that failed twice, as it leaves the part. -/
theorem readFailed_over (s : State) (h : HeldRead) (k : Ticket) (hk : s.ticket h.ticket = some k) :
    s.sameBut [.colour, .notices, .desk, .media] (s.begin.readFailed h) ∧ (s.begin.readFailed h).out = [] ∧
      (s.begin.readFailed h).colour = { s.colour with sensor := .idle, held := none, timer := none, calCount := 50 } ∧
      (s.begin.readFailed h).notices = { s.notices with pending := s.notices.pending ||| 1#18 <<< 14 } ∧
      (s.begin.readFailed h).ticket h.ticket = some { k with verdict := .unverified } ∧
      (s.begin.readFailed h).media.placed = s.media.placed.filter fun a =>
        !(a.2.handed && a.2.kind == .patchRead && a.2.ticket == h.ticket) := by
  refine ⟨by simp [sameBut_iff], by simp [State.begin], ?_, ?_, ?_, endRead_placed _ _ _⟩
  · simp only [State.readFailed, endRead_keeps]
    rfl
  · rw [State.readFailed, endRead_unverified_notices]
    rfl
  · rw [State.readFailed, endRead_unverified_ticket]
    have hu : (((s.begin.sensorEnds .idle).withColour
        { (s.begin.sensorEnds .idle).colour with calCount := 50 }).raise .sensorFault).ticket h.ticket = some k := hk
    rw [hu]
    simp

/-- Settles O52, by what the held read is and what the attempt brings. -/
theorem measurementEndsAsItsAnswerSays : Obligations.MeasurementEndsAsItsAnswerSays := by
  intro h k s hs hm hh hk
  have hb : s.begin.colour.held = some h := hh
  have hkb : s.begin.ticket h.ticket = some k := hk
  refine ⟨fun hd row => ?_, fun row mx mn v hd hl hmx hmn hv => ?_, fun row hd hr hl => ?_, fun row hd hr hl => ?_⟩
  · rw [exec_result_measuring hs hm, rowTaken_discarded hb hd]
    rfl
  · refine ⟨_, by rw [exec_result_measuring hs hm, rowTaken_judged hb hd hl hkb], ?_⟩
    have hj : judgeRow k row h.targets = .judged v mx mn := by
      rw [hmx, hmn] at hv
      rw [hmx, hmn, hv]
      rfl
    have hki : (s.begin.sensorEnds .idle).ticket h.ticket = some k := hk
    have hdesk := endRead_judged_desk (s.begin.sensorEnds .idle) h.ticket k hki v mx mn
    rw [hj]
    refine ⟨by simp [sameBut_iff], by simp [State.begin], by simp only [endRead_keeps]; rfl, ?_, fun y hy => ?_,
      endRead_placed _ _ _, endRead_judged_notices _ _ k hki v mx mn⟩
    · rw [ticket_of_desk hdesk, setTicket_ticket_self]
      rfl
    · rw [ticket_of_desk hdesk, setTicket_ticket_ne _ _ hy.symm]
      rfl
  · have hagain := attemptFailed_measuresAgain hm hh hd hr
    refine ⟨?_, fun ht => ?_, fun code => ?_⟩
    · rw [exec_result_measuring hs hm, rowTaken_short hb hd hl, hagain]
      rfl
    · rw [exec_sensorTimerExpiry_measuring hm ht, hagain]
      rfl
    · rw [exec_sensorError_measuring hs hm]
      exact congrArg (fun u : State => Host.Outcome.next (u.settle s.begin))
        (attemptFailed_measuresAgain (s := s.withColour { s.colour with lastError := some code }) hm hh hd hr)
  · have hfail := attemptFailed_second hb hd hr
    refine ⟨s.begin.readFailed h, ?_, fun ht => ?_, readFailed_over s h k hk⟩
    · rw [exec_result_measuring hs hm, rowTaken_short hb hd hl, hfail]
    · rw [exec_sensorTimerExpiry_measuring hm ht, hfail]

end Sys2Proof.Machine
end

section
/-! PROOF. What a debit leaves of its channel and of the tank that feeds it (R70, R71, R74 to R77, R80). -/

namespace Sys2Proof.Machine

open Sys2Proof

/-! ## The two slots of a channel -/

theorem tankOf_other_ne (c : ChannelId) (y : Side) : tankOf c y.other ≠ tankOf c y := by
  cases y <;> simp [tankOf, Side.other]

/-- R70, R82: the other slot can take a switchover: it is STANDBY, without release pending. -/
theorem isCandidate_iff (x : TankSlot) :
    x.isCandidate = true ↔ ∃ r, x = .held .standby r ∧ r.releasePending = false := by
  rcases x with _ | _ | _ | ⟨st, r⟩
  case held => cases st <;> simp [TankSlot.isCandidate]
  all_goals simp [TankSlot.isCandidate]

/-! ## A write-back -/

section
variable {s : State} {t : TankId} {st : HeldState} {r : TankRecord}

theorem queueTag_waiting (s : State) (t : TankId) (op : TagOp) : (s.queueTag t op).tags.waiting[t] ≠ none := by
  simp [State.queueTag]

theorem writeBack_held (h : s.tank t = .held st r) : s.writeBack t =
    (s.setTank t (.held st { r with writeMark := r.fill })).queueTag t (.write r.fill) := by
  simp [State.writeBack, h, TankSlot.record, TankSlot.modRecord]

theorem queueTag_tank (s : State) (t z : TankId) (op : TagOp) : (s.queueTag t op).tank z = s.tank z := by
  simp [State.tank]

theorem writeBack_tank (h : s.tank t = .held st r) :
    (s.writeBack t).tank t = .held st { r with writeMark := r.fill } := by
  rw [writeBack_held h, queueTag_tank, setTank_tank_self]

theorem writeBack_waiting (h : s.tank t = .held st r) : (s.writeBack t).tags.waiting[t] ≠ none := by
  rw [writeBack_held h]
  exact queueTag_waiting _ _ _

theorem writeBack_tank_ne (s : State) {t z : TankId} (hz : z ≠ t) : (s.writeBack t).tank z = s.tank z := by
  unfold State.writeBack
  split
  · rfl
  · rw [queueTag_tank, setTank_tank_ne _ _ hz.symm]

@[simp] theorem writeBack_channel (s : State) (t : TankId) (c : ChannelId) :
    (s.writeBack t).channel c = s.channel c := by
  unfold State.writeBack
  split
  · rfl
  · simp [State.channel, State.setTank]

/-- R80: a conditional write-back is a write-back or nothing. -/
theorem writeBackIfNeeded_eq (s : State) (t : TankId) :
    s.writeBackIfNeeded t = s.writeBack t ∨ s.writeBackIfNeeded t = s := by
  unfold State.writeBackIfNeeded
  split
  · exact .inr rfl
  · split_ifs
    · exact .inl rfl
    · exact .inr rfl

theorem writeBackIfNeeded_tank (h : s.tank t = .held st r) :
    ∃ m, (s.writeBackIfNeeded t).tank t = .held st { r with writeMark := m } := by
  rcases writeBackIfNeeded_eq s t with e | e <;> rw [e]
  · exact ⟨_, writeBack_tank h⟩
  · exact ⟨_, h⟩

theorem writeBackIfNeeded_waiting (h : s.tank t = .held st r) (hw : s.tags.waiting[t] ≠ none) :
    (s.writeBackIfNeeded t).tags.waiting[t] ≠ none := by
  rcases writeBackIfNeeded_eq s t with e | e <;> rw [e]
  · exact writeBack_waiting h
  · exact hw

theorem writeBackIfNeeded_tank_ne (s : State) {t z : TankId} (hz : z ≠ t) :
    (s.writeBackIfNeeded t).tank z = s.tank z := by
  rcases writeBackIfNeeded_eq s t with e | e <;> rw [e]
  exact writeBack_tank_ne s hz

@[simp] theorem writeBackIfNeeded_channel (s : State) (t : TankId) (c : ChannelId) :
    (s.writeBackIfNeeded t).channel c = s.channel c := by
  rcases writeBackIfNeeded_eq s t with e | e <;> rw [e]
  exact writeBack_channel s t c

end

/-! ## What follows a debit's split -/

/-- R76: the reserve notice at the crossing of the floor. -/
def State.warned (s : State) (c : ChannelId) (before : Nat) (r : TankRecord) : State :=
  s.raiseIf (decide (mlToNl (s.channel c).floor < before) && decide (r.fill ≤ mlToNl (s.channel c).floor))
    .channelReserve

/-- R74, R76, R80: after the split, the reserve notice and the write-back test. -/
def State.noted (s : State) (c : ChannelId) (t : TankId) (before : Nat) (r : TankRecord) : State :=
  if r.fill + 10000000 ≤ r.writeMark then (s.warned c before r).writeBack t else s.warned c before r

/-- R74: what follows the split is the notice and the write-back test, then the switchover test, then R77. -/
theorem afterDebit_held {s : State} {t : TankId} {st : HeldState} {r : TankRecord} (h : s.tank t = .held st r)
    (c : ChannelId) (before : Nat) :
    s.afterDebit c t before = ((s.noted c t before r).switchTest c).runDry c := by
  simp only [State.afterDebit, h, TankSlot.record]
  rfl

@[simp] theorem raise_tank (s : State) (k : Notice) (t : TankId) : (s.raise k).tank t = s.tank t := rfl

@[simp] theorem raise_channel (s : State) (k : Notice) (c : ChannelId) : (s.raise k).channel c = s.channel c := rfl

@[simp] theorem raiseIf_tank (s : State) (x : Bool) (k : Notice) (t : TankId) : (s.raiseIf x k).tank t = s.tank t := by
  simp [State.tank]

@[simp] theorem raiseIf_channel (s : State) (x : Bool) (k : Notice) (c : ChannelId) :
    (s.raiseIf x k).channel c = s.channel c := by
  simp [State.channel]

section
variable (s : State) (c : ChannelId) (t : TankId) (before : Nat) (r : TankRecord)

theorem noted_cases :
    (r.fill + 10000000 ≤ r.writeMark ∧ s.noted c t before r = (s.warned c before r).writeBack t) ∨
      (¬ r.fill + 10000000 ≤ r.writeMark ∧ s.noted c t before r = s.warned c before r) := by
  unfold State.noted
  split_ifs with h
  · exact .inl ⟨h, rfl⟩
  · exact .inr ⟨h, rfl⟩

@[simp] theorem noted_channel (b : ChannelId) : (s.noted c t before r).channel b = s.channel b := by
  rcases noted_cases s c t before r with ⟨-, e⟩ | ⟨-, e⟩ <;> rw [e] <;> simp [State.warned]

theorem noted_tank_ne {z : TankId} (hz : z ≠ t) : (s.noted c t before r).tank z = s.tank z := by
  rcases noted_cases s c t before r with ⟨-, e⟩ | ⟨-, e⟩ <;> rw [e]
  · rw [writeBack_tank_ne _ hz, State.warned, raiseIf_tank]
  · exact raiseIf_tank _ _ _ _

theorem noted_notices : (s.noted c t before r).notices = (s.warned c before r).notices := by
  rcases noted_cases s c t before r with ⟨-, e⟩ | ⟨-, e⟩ <;> rw [e]
  simp

variable {s c t before r} {st : HeldState}

theorem noted_tank (h : s.tank t = .held st r) :
    ∃ m, (s.noted c t before r).tank t = .held st { r with writeMark := m } := by
  rcases noted_cases s c t before r with ⟨-, e⟩ | ⟨-, e⟩ <;> rw [e]
  · exact ⟨r.fill, writeBack_tank ((raiseIf_tank _ _ _ _).trans h)⟩
  · exact ⟨r.writeMark, (raiseIf_tank _ _ _ _).trans h⟩

theorem noted_waiting (h : s.tank t = .held st r) (hm : r.fill + 10000000 ≤ r.writeMark) :
    (s.noted c t before r).tags.waiting[t] ≠ none := by
  rcases noted_cases s c t before r with ⟨-, e⟩ | ⟨hn, -⟩
  · rw [e]
    exact writeBack_waiting ((raiseIf_tank _ _ _ _).trans h)
  · exact absurd hm hn

end

/-! ## The switchover test and the running-dry rule of a FED channel -/

/-- R70: a FED channel's feeding fill is at or below the switch level and its other slot can take a switchover. -/
def State.switchDue (s : State) (c : ChannelId) (y : Side) (r : TankRecord) : Prop :=
  r.fill ≤ mlToNl (s.channel c).level ∧ (s.tank (tankOf c y.other)).isCandidate = true

section
variable {s : State} {c : ChannelId} {y : Side} {st : HeldState} {r : TankRecord} (hd : s.drawsFrom c y st r)
include hd

/-- R70, R71: a switchover that is due starts. -/
theorem switchTest_due (h : s.switchDue c y r) : (s.switchTest c).runDry c = s.startSwitch c y.other := by
  obtain ⟨hfeed, htank⟩ := hd
  have hs : s.switchTest c = s.startSwitch c y.other := by
    simp [State.switchTest, hfeed, htank, TankSlot.record, h.1, h.2]
  rw [hs]
  simp [State.runDry, State.startSwitch]

theorem switchTest_not_due (h : ¬ s.switchDue c y r) : s.switchTest c = s := by
  obtain ⟨hfeed, htank⟩ := hd
  simp only [State.switchTest, hfeed, htank, TankSlot.record]
  exact if_neg (by simpa [State.switchDue] using h)

/-- R77: without a switchover, a FED channel at fill 0 runs dry. -/
theorem runDry_empty (h0 : r.fill = 0) : s.runDry c =
    (((s.setTank (tankOf c y) (.held (if st = .feeding then .depleted else st) r)).writeBackIfNeeded
      (tankOf c y)).setChannel c { s.channel c with feed := .starved }).raise .channelStarved := by
  obtain ⟨hfeed, htank⟩ := hd
  simp [State.runDry, hfeed, htank, h0]

theorem runDry_left (h0 : 0 < r.fill) : s.runDry c = s := by
  obtain ⟨hfeed, htank⟩ := hd
  simp [State.runDry, hfeed, htank, h0.ne']

/-- R74: neither test changes the record of the feeding tank but for its write mark, nor the overdraw total. -/
theorem tests_own : (((s.switchTest c).runDry c).channel c).overdraw = (s.channel c).overdraw ∧
    ∃ st' m, ((s.switchTest c).runDry c).tank (tankOf c y) = .held st' { r with writeMark := m } := by
  by_cases h : s.switchDue c y r
  · rw [switchTest_due hd h]
    exact ⟨by simp [State.startSwitch], st, r.writeMark, hd.2⟩
  · rw [switchTest_not_due hd h]
    rcases Nat.eq_zero_or_pos r.fill with h0 | h0
    · rw [runDry_empty hd h0]
      rw [raise_channel, setChannel_channel_self, raise_tank, setChannel_tank]
      exact ⟨rfl, _, writeBackIfNeeded_tank (setTank_tank_self _ _ _)⟩
    · rw [runDry_left hd h0]
      exact ⟨rfl, st, r.writeMark, hd.2⟩

theorem tests_tank_ne {z : TankId} (hz : z ≠ tankOf c y) : ((s.switchTest c).runDry c).tank z = s.tank z := by
  by_cases h : s.switchDue c y r
  · rw [switchTest_due hd h]; rfl
  · rw [switchTest_not_due hd h]
    rcases Nat.eq_zero_or_pos r.fill with h0 | h0
    · rw [runDry_empty hd h0]
      rw [raise_tank, setChannel_tank, writeBackIfNeeded_tank_ne _ hz, setTank_tank_ne _ _ hz.symm]
    · rw [runDry_left hd h0]

theorem tests_waiting (hw : s.tags.waiting[tankOf c y] ≠ none) :
    ((s.switchTest c).runDry c).tags.waiting[tankOf c y] ≠ none := by
  by_cases h : s.switchDue c y r
  · rw [switchTest_due hd h, (startSwitch_keeps s c _).2.2.2.1]
    exact hw
  · rw [switchTest_not_due hd h]
    rcases Nat.eq_zero_or_pos r.fill with h0 | h0
    · rw [runDry_empty hd h0]
      simp only [raise_keeps, setChannel_keeps]
      exact writeBackIfNeeded_waiting (setTank_tank_self _ _ _) (by rwa [(setTank_keeps s _ _).2.2.2.1])
    · rwa [runDry_left hd h0]

end

/-! ## A debit -/

/-- R74, R75: the part of a debit of d nL of a channel that a feeding tank holds. -/
def State.tankPart (s : State) (c : ChannelId) (d : Nat) : Nat :=
  match (s.channel c).feed with
  | .fed y =>
    match s.tank (tankOf c y) with
    | .held _ r => min d r.fill
    | _ => 0
  | _ => 0

section
variable {s : State} {c : ChannelId} {y : Side} {st : HeldState} {r : TankRecord}

theorem tankPart_drawn (hd : s.drawsFrom c y st r) (d : Nat) : s.tankPart c d = min d r.fill := by
  simp only [State.tankPart, hd.1, hd.2]

theorem tankPart_beyond (h : ∀ x st r, ¬ s.drawsFrom c x st r) (d : Nat) : s.tankPart c d = 0 := by
  unfold State.tankPart
  split
  · split
    · exact absurd ⟨‹_›, ‹_›⟩ (h _ _ _)
    · rfl
  · rfl

/-- The state between a debit's split and what follows it (R74, R75). -/
def State.split (s : State) (c : ChannelId) (y : Side) (st : HeldState) (r : TankRecord) (d : Nat)
    (t : Option TicketId) : State :=
  ((s.setTank (tankOf c y) (.held st { r with fill := r.fill - min d r.fill })).overdrawChannel c
    (d - min d r.fill)).inkTicket c t d (d - min d r.fill)

theorem split_tank (d : Nat) (t : Option TicketId) (z : TankId) : (s.split c y st r d t).tank z =
    if tankOf c y = z then .held st { r with fill := r.fill - min d r.fill } else s.tank z := by
  simp only [State.split, State.tank, inkTicket_keeps]
  exact setTank_tank s _ _ _

theorem split_channel (d : Nat) (t : Option TicketId) : (s.split c y st r d t).channel c =
    { s.channel c with overdraw := satAdd (top 48) (s.channel c).overdraw (d - min d r.fill) } := by
  simp only [State.split, State.channel, inkTicket_keeps]
  exact setChannel_channel_self _ _ _

theorem debit_split (hd : s.drawsFrom c y st r) (d : Nat) (t : Option TicketId) :
    (s.debit c d t).1 = (((s.split c y st r d t).noted c (tankOf c y) r.fill
      { r with fill := r.fill - min d r.fill }).switchTest c).runDry c := by
  rw [debit_drawn hd]
  exact afterDebit_held ((split_tank d t _).trans (if_pos rfl)) _ _

/-- R74: once the split's notice and write-back test are made, the channel still draws from the same tank. -/
theorem noted_drawsFrom (hd : s.drawsFrom c y st r) (d : Nat) (t : Option TicketId) (before : Nat) :
    ∃ m, ((s.split c y st r d t).noted c (tankOf c y) before
      { r with fill := r.fill - min d r.fill }).drawsFrom c y st
        { r with fill := r.fill - min d r.fill, writeMark := m } := by
  obtain ⟨m, hm⟩ := noted_tank (c := c) (before := before) ((split_tank (s := s) (c := c) (y := y) d t _).trans (if_pos rfl))
  refine ⟨m, ?_, hm⟩
  rw [noted_channel, split_channel]
  exact hd.1

/-- R74, R75: the overdraw total of a debited channel rises by what its tank does not hold. -/
theorem debit_overdraw (s : State) (c : ChannelId) (d : Nat) (t : Option TicketId) :
    ((s.debit c d t).1.channel c).overdraw = satAdd (top 48) (s.channel c).overdraw (d - s.tankPart c d) := by
  by_cases hd : ∃ y st r, s.drawsFrom c y st r
  · obtain ⟨y, st, r, hd⟩ := hd
    obtain ⟨m, hm⟩ := noted_drawsFrom hd d t r.fill
    rw [debit_split hd, (tests_own hm).1, noted_channel, split_channel, tankPart_drawn hd]
  · have hd : ∀ x st r, ¬ s.drawsFrom c x st r := by simpa using hd
    rw [debit_beyond hd, tankPart_beyond hd, Nat.sub_zero]
    simp only [State.channel, inkTicket_keeps]
    exact congrArg Channel.overdraw (setChannel_channel_self _ _ _)

/-- R74, R80: a feeding tank's record after a debit: its fill lowered, and its write mark. -/
theorem debit_tank (hd : s.drawsFrom c y st r) (d : Nat) (t : Option TicketId) :
    ∃ st' m, (s.debit c d t).1.tank (tankOf c y) = .held st' { r with fill := r.fill - min d r.fill, writeMark := m } := by
  obtain ⟨m, hm⟩ := noted_drawsFrom hd d t r.fill
  rw [debit_split hd]
  exact (tests_own hm).2

/-- R74: a debit touches no tank slot but the one that its channel is fed from. -/
theorem debit_tank_ne (s : State) (c : ChannelId) (d : Nat) (t : Option TicketId) {z : TankId}
    (hz : ∀ y, (s.channel c).feed = .fed y → z ≠ tankOf c y) : (s.debit c d t).1.tank z = s.tank z := by
  by_cases hd : ∃ y st r, s.drawsFrom c y st r
  · obtain ⟨y, st, r, hd⟩ := hd
    obtain ⟨m, hm⟩ := noted_drawsFrom hd d t r.fill
    have hzy := hz y hd.1
    rw [debit_split hd, tests_tank_ne hm hzy, noted_tank_ne _ _ _ _ _ hzy, split_tank, if_neg hzy.symm]
  · rw [debit_beyond (by simpa using hd)]
    simp [State.tank, State.overdrawChannel, State.setChannel]

/-- R74, R75: a ticket that a debit is charged to. -/
def Ticket.inkedBy (k : Ticket) (c : ChannelId) (d beyond : Nat) : Ticket :=
  { k with ink := put k.ink c (satAdd (top 32) k.ink[c] d), overdraw := k.overdraw || decide (0 < beyond) }

theorem debit_desk_inked (s : State) (c : ChannelId) (d : Nat) (t : TicketId) (k : Ticket) (hk : s.ticket t = some k) :
    (s.debit c d (some t)).1.desk = (s.setTicket t (k.inkedBy c d (d - s.tankPart c d))).desk := by
  have inked : ∀ (u : State) n, u.desk = s.desk → ((u.overdrawChannel c n).inkTicket c (some t) d n).desk =
      (s.setTicket t (k.inkedBy c d n)).desk := by
    intro u n hu
    have hd : (u.overdrawChannel c n).desk = s.desk := by simp [hu]
    simp only [State.inkTicket]
    rw [modTicket_some ((ticket_of_desk hd t).trans hk)]
    exact setTicket_desk hd t _
  by_cases hd : ∃ x st r, s.drawsFrom c x st r
  · obtain ⟨x, st, r, hd⟩ := hd
    rw [debit_drawn hd, tankPart_drawn hd, (afterDebit_keeps _ _ _ _).2.1]
    exact inked _ _ (setTank_keeps s _ _).2.1
  · have hd : ∀ x st r, ¬ s.drawsFrom c x st r := by simpa using hd
    rw [debit_beyond hd, tankPart_beyond hd]
    exact inked s d rfl

end

end Sys2Proof.Machine
end

section
/-! PROOF. One channel of a swath report: its drops as ink and cost (R47 to R52, R70, R71, R74 to R77, R80). -/

namespace Sys2Proof.Machine

open Sys2Proof

/-! ## The notices of a debit -/

theorem bit_getLsbD (k : Notice) (i : Nat) : k.bit.getLsbD i = decide (i = k.number) := by
  have hk : k.number < 18 := by cases k <;> decide
  rw [Notice.bit, ← BitVec.twoPow_eq, BitVec.getLsbD_twoPow]
  simp [hk, eq_comm]

theorem raise_getLsbD (s : State) (k : Notice) (i : Nat) :
    (s.raise k).notices.pending.getLsbD i = (s.notices.pending.getLsbD i || decide (i = k.number)) := by
  simp [State.raise, bit_getLsbD]

theorem raiseIf_getLsbD (s : State) (x : Bool) (k : Notice) (i : Nat) :
    (s.raiseIf x k).notices.pending.getLsbD i = (s.notices.pending.getLsbD i || (x && decide (i = k.number))) := by
  cases x
  · simp [State.raiseIf]
  · exact raise_getLsbD s k i

/-- R76: the reserve notice is the only one that the split's notice and write-back test can raise. -/
theorem noted_getLsbD (s : State) (c : ChannelId) (t : TankId) (before : Nat) (r : TankRecord) (i : Nat) :
    (s.noted c t before r).notices.pending.getLsbD i = (s.notices.pending.getLsbD i ||
      (decide (mlToNl (s.channel c).floor < before ∧ r.fill ≤ mlToNl (s.channel c).floor) && decide (i = 5))) := by
  rw [noted_notices, State.warned, raiseIf_getLsbD, Bool.decide_and]
  rfl

/-! ## A debit of a FEEDING tank, with no ticket -/

section
variable {s : State} {c : ChannelId} {y : Side} {r : TankRecord} (hd : s.drawsFrom c y .feeding r) (d : Nat)

/-- R74: the state in which the switchover test of such a debit is made. -/
def State.atTests (s : State) (c : ChannelId) (y : Side) (r : TankRecord) (d : Nat) : State :=
  (s.split c y .feeding r d none).noted c (tankOf c y) r.fill { r with fill := r.fill - min d r.fill }

theorem atTests_getLsbD (s : State) (c : ChannelId) (y : Side) (r : TankRecord) (d i : Nat) :
    (s.atTests c y r d).notices.pending.getLsbD i = (s.notices.pending.getLsbD i ||
      (decide ((s.channel c).floor * 1000000 < r.fill ∧ r.fill - min d r.fill ≤ (s.channel c).floor * 1000000) &&
        decide (i = 5))) := by
  rw [State.atTests, noted_getLsbD, split_channel]
  simp [State.split, mlToNl]

/-- R70: the switchover test is made with the new fill against the level and the other slot. -/
theorem atTests_switchDue (s : State) (c : ChannelId) (y : Side) (r : TankRecord) (d m : Nat) :
    (s.atTests c y r d).switchDue c y { r with fill := r.fill - min d r.fill, writeMark := m } ↔
      r.fill - min d r.fill ≤ (s.channel c).level * 1000000 ∧
        ∃ r', s.tank (tankOf c y.other) = .held .standby r' ∧ r'.releasePending = false := by
  rw [State.switchDue, State.atTests, noted_channel, split_channel, noted_tank_ne _ _ _ _ _ (tankOf_other_ne c y),
    split_tank, if_neg (tankOf_other_ne c y).symm, isCandidate_iff]
  rfl

theorem debit_sameBut (s : State) (c : ChannelId) (d : Nat) :
    s.sameBut [.supply, .tags, .notices] (s.debit c d none).1 := by
  by_cases hd : ∃ y st r, s.drawsFrom c y st r
  · obtain ⟨y, st, r, hd⟩ := hd
    rw [debit_drawn hd]
    simp [sameBut_iff, State.inkTicket]
  · rw [debit_beyond (by simpa using hd)]
    simp [sameBut_iff, State.inkTicket]

include hd

/-- R74: the tests of such a debit are made on a channel that still draws from the tank. -/
theorem debit_tests : (s.debit c d none).1 = ((s.atTests c y r d).switchTest c).runDry c ∧
    ∃ m, (s.atTests c y r d).drawsFrom c y .feeding { r with fill := r.fill - min d r.fill, writeMark := m } :=
  ⟨debit_split hd d none, noted_drawsFrom hd d none r.fill⟩

/-- R76: CHANNEL_RESERVE is raised where the debit takes the fill from above the floor to it or below. -/
theorem debit_reserve : (s.debit c d none).1.notices.pending.getLsbD 5 = (s.notices.pending.getLsbD 5 ||
    decide ((s.channel c).floor * 1000000 < r.fill ∧ r.fill - min d r.fill ≤ (s.channel c).floor * 1000000)) := by
  obtain ⟨hu, m, hm⟩ := debit_tests hd d
  have hbit := atTests_getLsbD s c y r d 5
  rw [decide_eq_true rfl, Bool.and_true] at hbit
  rw [hu, ← hbit]
  by_cases h : (s.atTests c y r d).switchDue c y { r with fill := r.fill - min d r.fill, writeMark := m }
  · rw [switchTest_due hm h, (startSwitch_keeps _ _ _).2.2.2.2.2.2.2.2.2.2.1]
  · rw [switchTest_not_due hm h]
    rcases Nat.eq_zero_or_pos (r.fill - min d r.fill) with h0 | h0
    · rw [runDry_empty hm h0, raise_getLsbD]
      simp [Notice.number]
    · rw [runDry_left hm h0]

/-- R70, R71: a switchover that is due starts, the tank still FEEDING. -/
theorem debit_switches (h : r.fill - min d r.fill ≤ (s.channel c).level * 1000000 ∧
      ∃ r', s.tank (tankOf c y.other) = .held .standby r' ∧ r'.releasePending = false) :
    ((s.debit c d none).1.channel c).feed = .switching y.other 1500 ∧
      ((s.debit c d none).1.channel c).valve = y.other ∧
      ∃ r', (s.debit c d none).1.tank (tankOf c y) = .held .feeding r' ∧ r'.fill = r.fill - min d r.fill := by
  obtain ⟨hu, m, hm⟩ := debit_tests hd d
  rw [hu, switchTest_due hm ((atTests_switchDue s c y r d m).mpr h)]
  generalize s.atTests c y r d = v at hm
  rw [State.startSwitch, setChannel_channel_self, setChannel_tank]
  exact ⟨rfl, rfl, _, hm.2, rfl⟩

section
variable (h : ¬ (r.fill - min d r.fill ≤ (s.channel c).level * 1000000 ∧
      ∃ r', s.tank (tankOf c y.other) = .held .standby r' ∧ r'.releasePending = false))
include h

/-- R77: without a switchover, a tank drawn to 0 is DEPLETED and its channel STARVED. -/
theorem debit_dries (h0 : r.fill - min d r.fill = 0) :
    ((s.debit c d none).1.channel c).feed = .starved ∧ (s.debit c d none).1.notices.pending.getLsbD 6 = true ∧
      ∃ r', (s.debit c d none).1.tank (tankOf c y) = .held .depleted r' ∧ r'.fill = 0 := by
  obtain ⟨hu, m, hm⟩ := debit_tests hd d
  rw [hu, switchTest_not_due hm (mt (atTests_switchDue s c y r d m).mp h), runDry_empty hm h0, if_pos rfl]
  generalize s.atTests c y r d = v at hm
  obtain ⟨m', hm'⟩ := writeBackIfNeeded_tank (setTank_tank_self v (tankOf c y)
    (.held .depleted { r with fill := r.fill - min d r.fill, writeMark := m }))
  rw [raise_channel, setChannel_channel_self, raise_tank, setChannel_tank]
  exact ⟨rfl, raise_bit _ .channelStarved, _, hm', h0⟩

/-- R74: without a switchover, a channel whose tank has ink left stays FED. -/
theorem debit_feeds (h0 : 0 < r.fill - min d r.fill) :
    ((s.debit c d none).1.channel c).feed = .fed y ∧
      (s.debit c d none).1.notices.pending.getLsbD 6 = s.notices.pending.getLsbD 6 ∧
      ∃ r', (s.debit c d none).1.tank (tankOf c y) = .held .feeding r' ∧ r'.fill = r.fill - min d r.fill := by
  obtain ⟨hu, m, hm⟩ := debit_tests hd d
  rw [hu, switchTest_not_due hm (mt (atTests_switchDue s c y r d m).mp h), runDry_left hm h0, atTests_getLsbD]
  exact ⟨hm.1, by simp, _, hm.2, rfl⟩

end

/-- R80: a write-back is queued where the fill has come 10 ml below the write mark. -/
theorem debit_waiting (h : r.fill - min d r.fill + 10000000 ≤ r.writeMark) :
    (s.debit c d none).1.tags.waiting[tankOf c y] ≠ none := by
  obtain ⟨hu, m, hm⟩ := debit_tests hd d
  rw [hu]
  exact tests_waiting hm (noted_waiting ((split_tank d none _).trans (if_pos rfl)) h)

end

/-! ## The drops of a channel and their charge -/

theorem countsNone_iff (n : DropCounts) : countsNone n = true ↔ n.small = 0 ∧ n.medium = 0 ∧ n.large = 0 := by
  simp [countsNone, and_assoc]

theorem countsClamp_eq (n : DropCounts) : countsClamp n =
    decide (268435455 < n.small ∨ 268435455 < n.medium ∨ 268435455 < n.large) := by
  rw [countsClamp, countLimit, Bool.decide_or, Bool.decide_or, Bool.or_assoc]

/-- R48 to R51, R74: a ticket that d nL of a channel, `beyond` of them overdraw, are charged to at the price m. -/
def Ticket.meteredBy (k : Ticket) (n : DropCounts) (c : ChannelId) (d beyond m : Nat) : Ticket :=
  let k := { k with countClamped := k.countClamped || countsClamp n }
  if d = 0 then k else (k.inkedBy c d beyond).charge m

theorem tankPart_congr {u s : State} {c : ChannelId} (h : u.bottles c = s.bottles c) (d : Nat) :
    u.tankPart c d = s.tankPart c d := by
  simp only [State.bottles, Prod.mk.injEq] at h
  obtain ⟨hc, ha, hb⟩ := h
  unfold State.tankPart
  rw [hc]
  cases (s.channel c).feed with
  | fed y => cases y <;> simp only [ha, hb]
  | _ => rfl

section
variable {s : State} {t : TicketId} {k : Ticket} (hk : s.ticket t = some k) {n : DropCounts} (c : ChannelId)
  (hn : countsNone n = false)
include hk hn

/-- R48 to R51, R74, R75: what one channel of a swath report leaves of the desk. -/
theorem meterChannel_desk : (s.meterChannel t n c).desk = (s.setTicket t (k.meteredBy n c (s.metered c n / 10000)
    (s.metered c n / 10000 - s.tankPart c (s.metered c n / 10000))
    (s.chargeOf c (s.metered c n / 10000)))).desk := by
  have hb := atDebit_bottles s t n c k c
  have hdesk : (s.atDebit t n c k).desk =
    (s.setTicket t { k with countClamped := k.countClamped || countsClamp n }).desk := by simp [State.atDebit]
  rw [meterChannel_some s t n c k hk hn, State.debitTicket, Ticket.meteredBy]
  generalize s.metered c n / 10000 = d
  split_ifs with hd
  · exact hdesk
  · have hdebit := debit_desk_inked (s.atDebit t n c k) c d t _
      ((ticket_of_desk hdesk t).trans (setTicket_ticket_self _ _ _))
    rw [tankPart_congr hb, setTicket_desk hdesk, setTicket_setTicket_desk] at hdebit
    dsimp only
    rw [debit_price, chargeOf_congr hb]
    exact chargeTicket_desk hdebit _

/-- R75: the overdraw total of a metered channel. -/
theorem meterChannel_overdraw : ((s.meterChannel t n c).channel c).overdraw =
    if s.metered c n / 10000 = 0 then (s.channel c).overdraw
    else min (2 ^ 48 - 1) ((s.channel c).overdraw +
      (s.metered c n / 10000 - s.tankPart c (s.metered c n / 10000))) := by
  have hb := atDebit_bottles s t n c k c
  have hch : (s.atDebit t n c k).channel c = s.channel c := congrArg Prod.fst hb
  rw [meterChannel_some s t n c k hk hn, State.debitTicket]
  split_ifs with hd
  · rw [hch]
  · have := congrArg Prod.fst (chargeTicket_bottles ((s.atDebit t n c k).debit c (s.metered c n / 10000) (some t)).1 t
      ((s.atDebit t n c k).debit c (s.metered c n / 10000) (some t)).2 c)
    dsimp only [State.bottles] at this
    rw [this, debit_overdraw, hch, tankPart_congr hb, satAdd_eq_min]
    rfl

/-- R74, R80: the feeding tank of a metered channel. -/
theorem meterChannel_tank {y : Side} {st : HeldState} {r : TankRecord} (hd : s.drawsFrom c y st r) :
    ∃ st' m, (s.meterChannel t n c).tank (tankOf c y) =
      .held st' { r with fill := r.fill - s.tankPart c (s.metered c n / 10000), writeMark := m } := by
  have hsup : (s.atDebit t n c k).supply = s.supply := by simp [State.atDebit]
  have hd' : (s.atDebit t n c k).drawsFrom c y st r := by
    simpa only [State.drawsFrom, State.channel, State.tank, hsup] using hd
  rw [meterChannel_some s t n c k hk hn, State.debitTicket, tankPart_drawn hd]
  split_ifs with h0
  · rw [h0, Nat.zero_min]
    exact ⟨st, r.writeMark, hd'.2⟩
  · obtain ⟨st', m, hm⟩ := debit_tank hd' (s.metered c n / 10000) (some t)
    exact ⟨st', m, by simpa [State.tank, State.chargeTicket] using hm⟩

end

/-- R48 to R52, R74: the ticket of a metered channel, field by field. -/
theorem meteredBy_eq (k : Ticket) (n : DropCounts) (c : ChannelId) (d beyond m : Nat) (hb : beyond ≤ d) :
    k.meteredBy n c d beyond m = { k with
      countClamped := k.countClamped ||
        decide (268435455 < n.small ∨ 268435455 < n.medium ∨ 268435455 < n.large),
      ink := if d = 0 then k.ink else put k.ink c (min (2 ^ 32 - 1) (k.ink[c] + d)),
      overdraw := k.overdraw || decide (0 < beyond),
      acc := if d = 0 then k.acc else min (2 ^ 64 - 1) (k.acc + m),
      saturated := k.saturated || decide (0 < d ∧ 2 ^ 64 - 1 < k.acc + m) } := by
  rcases Nat.eq_zero_or_pos d with rfl | hd
  · obtain rfl := Nat.le_zero.mp hb
    simp [Ticket.meteredBy, countsClamp_eq]
  · simp [Ticket.meteredBy, Ticket.inkedBy, Ticket.charge, countsClamp_eq, hd, hd.ne', satAdd_eq_min, top]

/-- R51, R74, R75: the parts of a debit and the price of its tank part, as the statement of a channel's charge names
them, are the model's. -/
theorem tankPart_eq {s : State} {c : ChannelId} {d tankPart beyond price : Nat}
    (hfeed : match (s.channel c).feed with
      | .fed y => ∃ st r, s.tank (tankOf c y) = .held st r ∧ tankPart = min d r.fill ∧ price = r.price
      | _ => tankPart = 0 ∧ price = 0)
    (hsum : tankPart + beyond = d) :
    s.tankPart c d = tankPart ∧ s.chargeOf c d = tankPart * price + beyond * (s.channel c).lastPrice := by
  unfold State.tankPart State.chargeOf
  cases hf : (s.channel c).feed with
  | fed y =>
    rw [hf] at hfeed
    obtain ⟨st, r, htank, hpart, hprice⟩ := hfeed
    have hb : d - r.fill = beyond := by omega
    simp only [htank]
    rw [hb, ← hpart, hprice]
    exact ⟨rfl, rfl⟩
  | starved =>
    rw [hf] at hfeed
    obtain ⟨rfl, rfl⟩ := hfeed
    exact ⟨rfl, by rw [← hsum]; simp⟩
  | switching _ _ =>
    rw [hf] at hfeed
    obtain ⟨rfl, rfl⟩ := hfeed
    exact ⟨rfl, by rw [← hsum]; simp⟩

/-- Settles O29: a channel's drops become whole nanolitres, a debit and a charge, by the equations of `meterChannel`;
and the tests that follow a debit of a FEEDING tank, by their three cases. -/
theorem swathDropsBecomeInkAndCost : Obligations.SwathDropsBecomeInkAndCost := by
  unfold Obligations.SwathDropsBecomeInkAndCost
  refine ⟨fun x k c n v d tankPart beyond price s hk hr hv hfeed hsum hd => ⟨fun h0 => ?_, fun h0 => ?_⟩,
    fun c y r d s hfeed htank => ?_⟩
  · exact meterChannel_none s x n c ((countsNone_iff n).mpr h0)
  · have hn : countsNone n = false := Bool.eq_false_iff.mpr fun h => h0 ((countsNone_iff n).mp h)
    have hm : s.metered c n = s.costing.residues[c] + v := by
      rw [State.metered, DropVolumes.fired, hv, countLimit, min_comm n.small, min_comm n.medium, min_comm n.large]
    have hdiv : s.metered c n / 10000 = d := by omega
    obtain ⟨hpart, hcharge⟩ := tankPart_eq hfeed hsum
    have hbeyond : d - s.tankPart c d = beyond := by omega
    have hdesk := meterChannel_desk hk c hn
    rw [hdiv, hbeyond, hcharge, meteredBy_eq _ _ _ _ _ _ (by omega)] at hdesk
    refine ⟨fun b => ?_, ?_, fun y hy => ?_, ?_, fun y hy st r hst => ?_⟩
    · rw [(meterChannel_costing s x n c k hk hr).1]
      refine (put_get _ _ _ _).trans ?_
      by_cases hb : b = c
      · rw [if_pos hb.symm, if_pos hb]; omega
      · rw [if_neg (Ne.symm hb), if_neg hb]; rfl
    · exact (ticket_of_desk hdesk x).trans (setTicket_ticket_self _ _ _)
    · exact (ticket_of_desk hdesk y).trans (setTicket_ticket_ne _ _ hy.symm)
    · rw [meterChannel_overdraw hk c hn, hdiv, hbeyond]
    · obtain ⟨st', m, hm⟩ := meterChannel_tank hk c hn ⟨hy, hst⟩
      rw [hdiv, hpart] at hm
      exact ⟨st', _, hm, rfl, rfl⟩
  · have hd : s.drawsFrom c y .feeding r := ⟨hfeed, htank⟩
    exact ⟨debit_reserve hd d, debit_switches hd d, debit_dries hd d, debit_feeds hd d, debit_waiting hd d,
      fun b hb => congrArg Prod.fst (debit_bottles s hb d none),
      fun z hz => debit_tank_ne s c d none fun y' hy' => by
        obtain rfl := Feed.fed.inj (hfeed.symm.trans hy')
        exact hz,
      debit_sameBut s c d⟩

end Sys2Proof.Machine
end

section
/-! PROOF. A purge report: its debits, and the house account (R60, R61, R74, R75, R136). -/

namespace Sys2Proof.Machine

open Sys2Proof

/-! ## One value of a report -/

/-- R61: an addition to the house account is of the costing block alone. -/
theorem chargeHouse_congr {u s : State} (h : u.costing = s.costing) (n : Nat) :
    (u.chargeHouse n).costing = (s.chargeHouse n).costing := by
  rw [chargeHouse_costing h, chargeHouse_costing rfl]

theorem bottles_channel {u s : State} {c : ChannelId} (h : u.bottles c = s.bottles c) : u.channel c = s.channel c :=
  congrArg Prod.fst h

theorem bottles_tank {u s : State} {c : ChannelId} (h : u.bottles c = s.bottles c) (y : Side) :
    u.tank (tankOf c y) = s.tank (tankOf c y) := by
  cases y
  · exact congrArg (fun b => b.2.1) h
  · exact congrArg (fun b => b.2.2) h

/-- R74, R75: from `s` to `u` the channel `c` was debited d nL. -/
structure State.purgedOf (s u : State) (c : ChannelId) (d : Nat) : Prop where
  overdraw : (u.channel c).overdraw = min (2 ^ 48 - 1) ((s.channel c).overdraw + (d - s.tankPart c d))
  drawn : ∀ y st r, s.drawsFrom c y st r → ∃ st' m,
    u.tank (tankOf c y) = .held st' { r with fill := r.fill - min d r.fill, writeMark := m }
  still : ∀ y, (s.channel c).feed ≠ .fed y → u.tank (tankOf c y) = s.tank (tankOf c y)

/-- What a debit of a channel does is of that channel and its two slots alone. -/
theorem purgedOf_congr {s s' u u' : State} {c : ChannelId} {d : Nat} (h : s.purgedOf u c d)
    (hs : s'.bottles c = s.bottles c) (hu : u'.bottles c = u.bottles c) : s'.purgedOf u' c d where
  overdraw := by rw [bottles_channel hu, bottles_channel hs, tankPart_congr hs, h.overdraw]
  drawn y st r hd := by
    rw [bottles_tank hu]
    rw [State.drawsFrom, bottles_channel hs, bottles_tank hs] at hd
    exact h.drawn y st r hd
  still y hy := by
    rw [bottles_tank hu, bottles_tank hs]
    exact h.still y (by rwa [bottles_channel hs] at hy)

theorem purgeChannel_zero (s : State) (c : ChannelId) : s.purgeChannel 0 c = s := rfl

theorem purgeChannel_pos (s : State) {v : Nat} (hv : 0 < v) (c : ChannelId) : s.purgeChannel v c =
    (s.debit c (min 2000000 v) none).1.chargeHouse (s.chargeOf c (min 2000000 v)) := by
  have hd : min 2000000 v ≠ 0 := by omega
  rw [State.purgeChannel, ← debit_price s c _ none]
  exact if_neg hd

theorem purgeChannel_bottles (s : State) {v : Nat} (hv : 0 < v) (c b : ChannelId) :
    (s.purgeChannel v c).bottles b = (s.debit c (min 2000000 v) none).1.bottles b := by
  rw [purgeChannel_pos s hv]
  exact bottles_of_supply (by simp) b

theorem purgeChannel_bottles_ne (s : State) (v : Nat) {b c : ChannelId} (h : b ≠ c) :
    (s.purgeChannel v c).bottles b = s.bottles b := by
  rcases Nat.eq_zero_or_pos v with rfl | hv
  · rfl
  · rw [purgeChannel_bottles s hv, debit_bottles s h]

theorem purgeChannel_purgedOf (s : State) {v : Nat} (hv : 0 < v) (c : ChannelId) :
    s.purgedOf (s.purgeChannel v c) c (min 2000000 v) := by
  refine purgedOf_congr ⟨?_, fun y st r hd => debit_tank hd _ none, fun y hy => ?_⟩ rfl (purgeChannel_bottles s hv c c)
  · rw [debit_overdraw, satAdd_eq_min]
    rfl
  · refine debit_tank_ne s c _ none fun y' hy' => ?_
    have hne : y ≠ y' := fun h => hy (h ▸ hy')
    cases y <;> cases y' <;> simp [tankOf] at hne ⊢

theorem purgeChannel_costing (s : State) {v : Nat} (hv : 0 < v) (c : ChannelId) :
    (s.purgeChannel v c).costing = (s.chargeHouse (s.chargeOf c (min 2000000 v))).costing := by
  rw [purgeChannel_pos s hv]
  exact chargeHouse_congr (by simp) _

/-! ## The values of a report -/

/-- R60: the values of the channels of a list, in its order. -/
def State.purgeAll (s : State) (v : Vector Nat 12) (cs : List ChannelId) : State :=
  cs.foldl (fun s c => s.purgeChannel v[c] c) s

theorem chargePurge_eq (s : State) (v : Vector Nat 12) : s.chargePurge v = s.purgeAll v (List.finRange 12) := rfl

theorem purgeAll_cons (s : State) (v : Vector Nat 12) (c : ChannelId) (cs : List ChannelId) :
    s.purgeAll v (c :: cs) = (s.purgeChannel v[c] c).purgeAll v cs := rfl

/-- R60: the sum of what the debits of a list of channels are charged. -/
def State.purgeCharge (s : State) (v : Vector Nat 12) (cs : List ChannelId) : Nat :=
  (cs.map fun c => s.chargeOf c (min 2000000 v[c])).sum

theorem purgeAll_zeros (s : State) (v : Vector Nat 12) (cs : List ChannelId) (h : ∀ b ∈ cs, v[b] = 0) :
    s.purgeAll v cs = s := by
  induction cs with
  | nil => rfl
  | cons c cs ih =>
    rw [purgeAll_cons, h c List.mem_cons_self, purgeChannel_zero]
    exact ih fun b hb => h b (List.mem_cons_of_mem c hb)

theorem purgeCharge_zeros (s : State) (v : Vector Nat 12) (cs : List ChannelId) (h : ∀ b ∈ cs, v[b] = 0) :
    s.purgeCharge v cs = 0 :=
  List.sum_eq_zero fun m hm => by
    obtain ⟨b, hb, rfl⟩ := List.mem_map.mp hm
    rw [h b hb, Nat.min_zero, chargeOf_zero]

/-- R60, R61: from `s` to `u` the values of the channels `cs` were debited and charged to the house account. -/
structure State.purgesTo (s u : State) (v : Vector Nat 12) (cs : List ChannelId) : Prop where
  costing : (∃ b ∈ cs, 0 < v[b]) → u.costing = (s.chargeHouse (s.purgeCharge v cs)).costing
  purged : ∀ c ∈ cs, 0 < v[c] → s.purgedOf u c (min 2000000 v[c])
  kept : ∀ c, (c ∈ cs → v[c] = 0) → u.bottles c = s.bottles c

theorem purgeAll_purgesTo (cs : List ChannelId) (s : State) (v : Vector Nat 12) (hcs : cs.Nodup) :
    s.purgesTo (s.purgeAll v cs) v cs := by
  induction cs generalizing s with
  | nil => exact ⟨by simp, by simp, fun _ _ => rfl⟩
  | cons c cs ih =>
    obtain ⟨hc, hcs⟩ := List.nodup_cons.mp hcs
    obtain ⟨hcost, hpurged, hkept⟩ := ih (s.purgeChannel v[c] c) hcs
    have hother : ∀ b ∈ cs, (s.purgeChannel v[c] c).bottles b = s.bottles b := fun b hb =>
      purgeChannel_bottles_ne s v[c] fun h => hc (h ▸ hb)
    have hsum : (s.purgeChannel v[c] c).purgeCharge v cs = s.purgeCharge v cs :=
      congrArg List.sum (List.map_congr_left fun b hb => chargeOf_congr (hother b hb) _)
    have hcharge : s.purgeCharge v (c :: cs) = s.chargeOf c (min 2000000 v[c]) + s.purgeCharge v cs := List.sum_cons
    rw [purgeAll_cons]
    refine ⟨fun hpos => ?_, fun b hb hv => ?_, fun b hb => ?_⟩
    · rcases Nat.eq_zero_or_pos v[c] with h0 | h0
      · rw [h0, purgeChannel_zero] at hcost ⊢
        rw [hcharge, h0, Nat.min_zero, chargeOf_zero, Nat.zero_add]
        obtain ⟨b, hb, hv⟩ := hpos
        exact hcost ⟨b, (List.mem_cons.mp hb).resolve_left fun h => hv.ne' (h ▸ h0), hv⟩
      · by_cases hz : ∃ b ∈ cs, 0 < v[b]
        · rw [hcost hz, hsum, hcharge, ← chargeHouse_twice]
          exact chargeHouse_congr (purgeChannel_costing s h0 c) _
        · have hz : ∀ b ∈ cs, v[b] = 0 := by simpa using hz
          rw [purgeAll_zeros _ _ _ hz, hcharge, purgeCharge_zeros _ _ _ hz, Nat.add_zero, purgeChannel_costing s h0 c]
    · rcases List.mem_cons.mp hb with rfl | hb
      · exact purgedOf_congr (purgeChannel_purgedOf s hv b) rfl (hkept b fun h => absurd h hc)
      · exact purgedOf_congr (hpurged b hb hv) (hother b hb).symm rfl
    · have hstep : (s.purgeChannel v[c] c).bottles b = s.bottles b := by
        by_cases hbc : b = c
        · subst hbc
          rw [hb List.mem_cons_self, purgeChannel_zero]
        · exact purgeChannel_bottles_ne s v[c] hbc
      exact (hkept b fun h => hb (List.mem_cons_of_mem c h)).trans hstep

/-! ## The end of a purge -/

theorem wakeEnd_slot (s : State) : s.wakeEnd.run.slot = s.run.slot := by
  have enter : ∀ (u : State) st, (u.enterRun st).run.slot = u.run.slot := fun u st => by cases st <;> rfl
  unfold State.wakeEnd; dsimp only
  split_ifs
  · exact enter _ _
  · exact enter _ _
  · rw [State.enterRunning, (startTest_keeps _).2.2.2.2.2.2.2.1, enter]
    rfl

theorem purgeEnded_slot (s : State) (kind : Option HeadOp) (set : ChannelSet) (ab : Bool) :
    (s.purgeEnded kind set ab).run.slot = s.run.slot := by
  have cleared : (s.clearFlags set).run.slot = s.run.slot := rfl
  unfold State.purgeEnded
  split
  · split_ifs
    · rfl
    · rw [wakeEnd_slot, cleared]
  · split_ifs
    · rfl
    · exact cleared
  · exact cleared
  · rfl

/-- R136: the state in which the values of a purge report are charged. -/
def State.purgeOver (s : State) : State := s.begin.endOp.emptySlot

theorem purgeOver_blocks (s : State) : s.purgeOver.supply = s.supply ∧ s.purgeOver.costing = s.costing ∧
    s.purgeOver.engine = { s.engine with op := none, swathTimer := none } ∧ s.purgeOver.run.slot = none := by
  unfold State.purgeOver
  refine ⟨by simp, by simp, ?_, rfl⟩
  rw [(emptySlot_keeps _).2.2.2.2.2.2.1]
  rfl

theorem purgeReported_blocks (s : State) (set : ChannelSet) (ab : Bool) (v : Vector Nat 12) :
    (s.begin.purgeReported set ab v).supply = (s.purgeOver.chargePurge v).supply ∧
      (s.begin.purgeReported set ab v).costing = (s.purgeOver.chargePurge v).costing ∧
      (s.begin.purgeReported set ab v).engine = { s.engine with op := none, swathTimer := none } ∧
      (s.begin.purgeReported set ab v).run.slot = none := by
  obtain ⟨-, -, hengine, hslot⟩ := purgeOver_blocks s
  rw [State.purgeReported, ← State.purgeOver, purgeEnded_slot]
  simp only [purgeEnded_keeps, chargePurge_keeps]
  exact ⟨trivial, trivial, hengine, hslot⟩

theorem exec_purgeDone (s : State) (set : ChannelSet) (w v : Vector Nat 12) (ab : Bool)
    (h : s.engine.op = some ⟨.purge set w, ab⟩) :
    exec (.purgeDone v) s = .next ((s.begin.purgeReported set ab v).settle s.begin) := by
  show Host.Outcome.next (purgeDone v s.begin) = _
  have h' : s.begin.engine.op = some ⟨.purge set w, ab⟩ := h
  simp only [purgeDone, h']

/-- Settles O30, by the values' debits one after another: each is of its own channel, so that each is what it would be
from the state of the report. -/
theorem purgeReportIsChargedToTheHouse : Obligations.PurgeReportIsChargedToTheHouse := by
  unfold Obligations.PurgeReportIsChargedToTheHouse
  intro set w v ab s hop
  obtain ⟨hsupply, hcosting, hengine, hslot⟩ := purgeReported_blocks s set ab v
  obtain ⟨hsupply₀, hcosting₀, -, -⟩ := purgeOver_blocks s
  have hto := purgeAll_purgesTo (List.finRange 12) s.purgeOver v (List.nodup_finRange 12)
  have hzero := purgeAll_zeros s.purgeOver v (List.finRange 12)
  rw [← chargePurge_eq] at hto hzero
  have hnext := exec_purgeDone s set w v ab hop
  generalize s.begin.purgeReported set ab v = u at *
  have hbottles₀ : ∀ c, s.bottles c = s.purgeOver.bottles c := fun c => bottles_of_supply hsupply₀.symm c
  have hbottles : ∀ c, u.bottles c = (s.purgeOver.chargePurge v).bottles c := fun c => bottles_of_supply hsupply c
  have hsum : s.purgeOver.purgeCharge v (List.finRange 12) =
      ((List.finRange 12).map fun c => s.chargeOf c (min 2000000 v[c])).sum :=
    congrArg List.sum (List.map_congr_left fun c _ => chargeOf_congr (hbottles₀ c).symm _)
  have hcharged : (∃ b : ChannelId, 0 < v[b]) → u.costing = (s.chargeHouse
      ((List.finRange 12).map fun c => s.chargeOf c (min 2000000 v[c])).sum).costing := fun ⟨b, hb⟩ => by
    rw [hcosting, hto.costing ⟨b, List.mem_finRange b, hb⟩, hsum]
    exact chargeHouse_congr hcosting₀ _
  have hnone : (∀ b : ChannelId, v[b] = 0) → u.costing = s.costing ∧ u.supply = s.supply := fun h => by
    rw [hcosting, hsupply, hzero fun b _ => h b]
    exact ⟨hcosting₀, hsupply₀⟩
  have hpurged : ∀ c : ChannelId, 0 < v[c] → s.purgedOf u c (min 2000000 v[c]) := fun c hv =>
    purgedOf_congr (hto.purged c (List.mem_finRange c) hv) (hbottles₀ c) (hbottles c)
  have hkept : ∀ c : ChannelId, v[c] = 0 → u.bottles c = s.bottles c := fun c hv =>
    (hbottles c).trans ((hto.kept c fun _ => hv).trans (hbottles₀ c).symm)
  have hdrops : u.costing.residues = s.costing.residues ∧ u.costing.volumes = s.costing.volumes := by
    by_cases h : ∃ b : ChannelId, 0 < v[b]
    · rw [hcharged h, chargeHouse_costing rfl]
      exact ⟨rfl, rfl⟩
    · rw [(hnone (by simpa using h)).1]
      exact ⟨rfl, rfl⟩
  refine ⟨u, hnext, hengine, hdrops.1, hdrops.2, hnone, fun h => ?_, fun c hv => ⟨fun y st r hf ht => ?_, fun hf => ?_⟩,
    fun c hv => bottles_channel (hkept c hv), fun c y hcy => ?_, fun _ _ _ => hslot⟩
  · rw [hcharged h, chargeHouse_costing rfl]
    exact ⟨rfl, rfl⟩
  · have hd : s.drawsFrom c y st r := ⟨hf, ht⟩
    obtain ⟨hover, hdrawn, -⟩ := hpurged c hv
    obtain ⟨st', m, hm⟩ := hdrawn y st r hd
    have hpart : ∀ d, d - min d r.fill = d - r.fill ∧ r.fill - min d r.fill = r.fill - d := fun d => by omega
    rw [tankPart_drawn hd, (hpart _).1] at hover
    rw [(hpart _).2] at hm
    exact ⟨hover, st', _, hm, rfl⟩
  · have hover := (hpurged c hv).overdraw
    rwa [tankPart_beyond fun y _ _ h => hf y h.1, Nat.sub_zero] at hover
  · rcases Nat.eq_zero_or_pos v[c] with h0 | h0
    · exact bottles_tank (hkept c h0) y
    · exact (hpurged c h0).still y (hcy.resolve_left h0.ne')

end Sys2Proof.Machine
end

section
/-! PROOF. What R79's second law and R96 read of the tanks, the channels and the bus, and the law over it (R66, R70,
R79, R82, R96). -/

namespace Sys2Proof.Machine

open Sys2Proof

/-! ## The slots of a channel -/

@[simp] theorem other_other (y : Side) : y.other.other = y := by cases y <;> rfl

theorem eq_or_eq_other (y z : Side) : z = y ∨ z = y.other := by
  cases y <;> cases z <;> decide

theorem other_ne (y : Side) : y.other ≠ y := by cases y <;> decide

@[simp] theorem channelOf_tankOf (c : ChannelId) (y : Side) : channelOf (tankOf c y) = c := by
  cases y <;> simp only [channelOf, tankOf, Fin.ext_iff] <;> omega

@[simp] theorem sideOf_tankOf (c : ChannelId) (y : Side) : sideOf (tankOf c y) = y := by
  cases y <;> simp [sideOf, tankOf, Nat.add_mod]

@[simp] theorem tankOf_channelOf (x : TankId) : tankOf (channelOf x) (sideOf x) = x := by
  unfold sideOf
  split <;> simp only [tankOf, channelOf, Fin.ext_iff] <;> omega

/-- R66: every slot is one of its channel's two. -/
theorem tankOf_eq_iff (c : ChannelId) (y : Side) (x : TankId) : tankOf c y = x ↔ c = channelOf x ∧ y = sideOf x := by
  constructor
  · rintro rfl
    simp
  · rintro ⟨rfl, rfl⟩
    simp

/-! ## Roles -/

/-- What the laws read of a tank slot: whether it is READING, and of a slot that holds a record its state and whether
it is being released. -/
inductive Role where
  | bare
  | reading
  | held (st : HeldState) (releasing : Bool)

def TankSlot.role : TankSlot → Role
  | .reading _ => .reading
  | .held st r => .held st r.releasePending
  | .empty | .rejectedBare _ _ => .bare

@[simp] theorem role_empty : TankSlot.empty.role = .bare := rfl
@[simp] theorem role_reading (m : Option Nat) : (TankSlot.reading m).role = .reading := rfl
@[simp] theorem role_rejectedBare (x : BareReason) (m : Option Nat) : (TankSlot.rejectedBare x m).role = .bare := rfl
@[simp] theorem role_held (st : HeldState) (r : TankRecord) : (TankSlot.held st r).role = .held st r.releasePending := rfl

theorem role_eq_held {x : TankSlot} {st : HeldState} {b : Bool} :
    x.role = .held st b ↔ ∃ r, x = .held st r ∧ r.releasePending = b := by
  cases x <;> simp

theorem role_eq_reading {x : TankSlot} : x.role = .reading ↔ ∃ m, x = .reading m := by
  cases x <;> simp

theorem isCandidate_role (x : TankSlot) : x.isCandidate = true ↔ x.role = .held .standby false :=
  (isCandidate_iff x).trans role_eq_held.symm

/-- A change of a record that leaves its release flag leaves the slot's role. -/
theorem modRecord_role (x : TankSlot) {f : TankRecord → TankRecord}
    (hf : ∀ r, (f r).releasePending = r.releasePending) : (x.modRecord f).role = x.role := by
  cases x <;> simp [TankSlot.modRecord, hf]

/-- The role of a channel's slot. -/
def State.roleOf (s : State) (c : ChannelId) (y : Side) : Role := (s.tank (tankOf c y)).role

/-! ## The two laws, channel by channel and slot by slot -/

/-- R79, law 2, of one channel, over the roles of its slots. -/
def Feed.lawful (f : Feed) (slot : Side → Role) : Prop :=
  match f with
  | .fed y => slot y = .held .feeding false ∧ ∀ b, slot y.other ≠ .held .feeding b
  | .switching y _ => slot y = .held .standby false ∧ slot y.other ≠ .held .feeding true
  | .starved => ∀ y b, slot y ≠ .held .feeding b

def State.feedLaw (s : State) (c : ChannelId) : Prop := (s.channel c).feed.lawful (s.roleOf c)

/-- A READ of a slot is on the bus. -/
def TagPhase.reads (p : TagPhase) (x : TankId) : Prop :=
  ∃ tx, (p = .request tx ∨ ∃ n, p = .turnaround tx n) ∧ tx.op = .read ∧ tx.slot = x

/-- R96 of one slot. -/
def State.readLaw (s : State) (x : TankId) : Prop :=
  (s.tags.waiting[x] = some .read → (s.tank x).role = .reading) ∧
    (s.tags.phase.reads x → (s.tank x).role = .reading ∧ s.tags.waiting[x] ≠ some .read)

theorem oneFeeding_iff (s : State) : s.supply.oneFeeding ↔ ∀ c, s.feedLaw c := by
  refine forall_congr' fun c => ?_
  have hf : s.supply.channels[c].feed = (s.channel c).feed := rfl
  have ht : ∀ x : TankId, s.supply.tanks[x] = s.tank x := fun _ => rfl
  simp only [State.feedLaw, Feed.lawful, State.roleOf, hf, ht]
  cases (s.channel c).feed <;> simp [role_eq_held]

theorem readsAtReadingSlots_iff (s : State) : s.readsAtReadingSlots ↔ ∀ x, s.readLaw x := by
  simp only [State.readsAtReadingSlots, State.readLaw, role_eq_reading, TagPhase.reads]
  constructor
  · rintro ⟨hw, hb⟩ x
    refine ⟨hw x, ?_⟩
    rintro ⟨tx, hp, ho, rfl⟩
    exact hb tx hp ho
  · intro h
    exact ⟨fun x => (h x).1, fun tx hp ho => (h tx.slot).2 ⟨tx, hp, ho, rfl⟩⟩

/-- Both laws hold, the first of every channel but those with a property: an event works on one channel at a time. -/
structure State.inkLawfulBut (s : State) (p : ChannelId → Prop) : Prop where
  feed : ∀ c, ¬ p c → s.feedLaw c
  read : ∀ x, s.readLaw x

/-- Both laws hold. -/
def State.inkLawful (s : State) : Prop := s.inkLawfulBut fun _ => False

theorem inkLawful_iff (s : State) : s.inkLawful ↔ s.supply.oneFeeding ∧ s.readsAtReadingSlots := by
  rw [oneFeeding_iff, readsAtReadingSlots_iff]
  exact ⟨fun h => ⟨fun c => h.feed c id, h.read⟩, fun h => ⟨fun c _ => h.1 c, h.2⟩⟩

section
variable {s t : State} {p q : ChannelId → Prop} {c : ChannelId}

theorem inkLawful_feed (h : s.inkLawful) (c : ChannelId) : s.feedLaw c := h.feed c id

theorem inkLawfulBut_mono (h : s.inkLawfulBut p) (hpq : ∀ b, p b → q b) : s.inkLawfulBut q :=
  ⟨fun b hb => h.feed b (mt (hpq b) hb), h.read⟩

/-- The work on a channel ends where its law holds again. -/
theorem inkLawfulBut_close (h : s.inkLawfulBut fun b => p b ∨ b = c) (hc : s.feedLaw c) : s.inkLawfulBut p :=
  ⟨fun b hb => (em (b = c)).elim (fun e => e ▸ hc) fun e => h.feed b (not_or.mpr ⟨hb, e⟩), h.read⟩

/-- The work on a channel begins. -/
theorem inkLawfulBut_or (h : s.inkLawfulBut p) (c : ChannelId) : s.inkLawfulBut fun b => p b ∨ b = c :=
  inkLawfulBut_mono h fun _ => .inl

/-! ## Moves that the laws do not see -/

/-- From `s` to `t` no role changed, each channel's law was left as it was, and no READ was queued or sent. -/
structure State.steady (s t : State) : Prop where
  feed : ∀ c slot, (s.channel c).feed.lawful slot → (t.channel c).feed.lawful slot
  role : ∀ x, (t.tank x).role = (s.tank x).role
  waiting : ∀ x : TankId, t.tags.waiting[x] = some .read → s.tags.waiting[x] = some .read
  bus : ∀ x, t.tags.phase.reads x → s.tags.phase.reads x

theorem steady_inkLawfulBut (h : s.steady t) (hs : s.inkLawfulBut p) : t.inkLawfulBut p := by
  refine ⟨fun c hc => ?_, fun x => ?_⟩
  · have hr : t.roleOf c = s.roleOf c := funext fun y => h.role _
    rw [State.feedLaw, hr]
    exact h.feed c _ (hs.feed c hc)
  · obtain ⟨hw, hb⟩ := hs.read x
    rw [State.readLaw, h.role]
    refine ⟨fun ht => hw (h.waiting x ht), fun ht => ?_⟩
    obtain ⟨hr, hn⟩ := hb (h.bus x ht)
    exact ⟨hr, mt (h.waiting x) hn⟩

theorem steady_inkLawful (h : s.steady t) (hs : s.inkLawful) : t.inkLawful := steady_inkLawfulBut h hs

theorem steady_of_same (h : t.supply = s.supply ∧ t.tags = s.tags) : s.steady t := by
  obtain ⟨hs, hg⟩ := h
  refine ⟨fun c _ => ?_, fun x => ?_, fun x => ?_, fun x => ?_⟩
  · rw [State.channel, State.channel, hs]; exact id
  · rw [State.tank, State.tank, hs]
  · rw [hg]; exact id
  · rw [hg]; exact id

theorem inkLawfulBut_of_same (hs : s.inkLawfulBut p) (h : t.supply = s.supply ∧ t.tags = s.tags) : t.inkLawfulBut p :=
  steady_inkLawfulBut (steady_of_same h) hs

theorem inkLawful_of_same (hs : s.inkLawful) (h : t.supply = s.supply ∧ t.tags = s.tags) : t.inkLawful :=
  inkLawfulBut_of_same hs h

/-- A channel rewritten under the same feed. -/
theorem setChannel_steady (c : ChannelId) {x : Channel} (hx : x.feed = (s.channel c).feed) :
    s.steady (s.setChannel c x) := by
  refine ⟨fun b slot => ?_, fun _ => rfl, fun _ => id, fun _ => id⟩
  rw [setChannel_channel]
  split
  · subst_vars; rw [hx]; exact id
  · exact id

/-- A slot rewritten in the same role. -/
theorem setTank_steady {x : TankId} {v : TankSlot} (hv : v.role = (s.tank x).role) : s.steady (s.setTank x v) := by
  refine ⟨fun _ _ => id, fun y => ?_, fun _ => id, fun _ => id⟩
  rw [setTank_tank]
  split
  · subst_vars; exact hv
  · rfl

theorem steady_trans {u : State} (h : s.steady u) (h' : u.steady t) : s.steady t :=
  ⟨fun c slot hs => h'.feed c slot (h.feed c slot hs), fun x => (h'.role x).trans (h.role x),
    fun x ht => h.waiting x (h'.waiting x ht), fun x ht => h.bus x (h'.bus x ht)⟩

theorem steady_refl (s : State) : s.steady s := ⟨fun _ _ => id, fun _ => rfl, fun _ => id, fun _ => id⟩

/-- R96: a WRITE that is queued brings no READ. -/
theorem queueWrite_steady (x : TankId) (n : Nat) : s.steady (s.queueTag x (.write n)) := by
  refine ⟨fun _ _ => id, fun _ => rfl, fun y => ?_, fun _ => id⟩
  rw [queueTag_tags]
  simp only [Fin.getElem_fin, put_get]
  split
  · subst_vars
    intro hr
    unfold coalesce at hr
    split at hr
    · assumption
    · cases hr
  · exact id

theorem writeBack_steady (x : TankId) : s.steady (s.writeBack x) := by
  unfold State.writeBack
  split
  · exact steady_refl s
  · refine steady_trans (setTank_steady ?_) (queueWrite_steady x _)
    exact modRecord_role _ fun _ => rfl

theorem writeBackIfNeeded_steady (x : TankId) : s.steady (s.writeBackIfNeeded x) := by
  rcases writeBackIfNeeded_eq s x with e | e <;> rw [e]
  · exact writeBack_steady x
  · exact steady_refl s

end

/-- R80: the FEEDING slots' write-backs. -/
theorem writeBackFeeding_steady (s : State) : s.steady s.writeBackFeeding := by
  unfold State.writeBackFeeding
  refine List.foldlRecOn (motive := fun u => s.steady u) _ _ (steady_refl s) fun u hu x _ => ?_
  split
  · exact steady_trans hu (writeBackIfNeeded_steady x)
  · exact hu

/-! ## One slot or one channel changed -/

/-- No READ of a slot is pending or on the bus. -/
def State.quiet (s : State) (x : TankId) : Prop := s.tags.waiting[x] ≠ some .read ∧ ¬ s.tags.phase.reads x

section
variable {s : State} {p : ChannelId → Prop} {c : ChannelId}

theorem quiet_of_role {x : TankId} (h : s.readLaw x) (hx : (s.tank x).role ≠ .reading) : s.quiet x := by
  obtain ⟨hw, hb⟩ := h
  exact ⟨mt hw hx, fun hr => hx (hb hr).1⟩

theorem quiet_of_held {x : TankId} {st : HeldState} {r : TankRecord} (h : s.inkLawfulBut p)
    (hx : s.tank x = .held st r) : s.quiet x :=
  quiet_of_role (h.read x) (by simp [hx])

/-- A slot of a channel that is being worked on takes any value where it has no READ, and READING where it has. -/
theorem setTank_inkLawfulBut (h : s.inkLawfulBut p) {x : TankId} (hp : p (channelOf x)) {v : TankSlot}
    (hv : v.role = .reading ∨ s.quiet x) : (s.setTank x v).inkLawfulBut p := by
  refine ⟨fun b hb => ?_, fun y => ?_⟩
  · have hne : channelOf x ≠ b := fun e => hb (e ▸ hp)
    have hr : (s.setTank x v).roleOf b = s.roleOf b := funext fun y => by
      rw [State.roleOf, setTank_tank_ne _ _ fun e => hne (by rw [e, channelOf_tankOf]), State.roleOf]
    rw [State.feedLaw, hr]
    exact h.feed b hb
  · by_cases hy : x = y
    · subst hy
      rw [State.readLaw, setTank_tank_self]
      rcases hv with hv | ⟨hw, hb⟩
      · exact ⟨fun _ => hv, fun hr => ⟨hv, ((h.read x).2 hr).2⟩⟩
      · exact ⟨fun hr => absurd hr hw, fun hr => absurd hr hb⟩
    · rw [State.readLaw, setTank_tank_ne _ _ hy]
      exact h.read y

theorem setChannel_inkLawfulBut (h : s.inkLawfulBut p) (hc : p c) (x : Channel) : (s.setChannel c x).inkLawfulBut p := by
  refine ⟨fun b hb => ?_, h.read⟩
  have hne : c ≠ b := fun e => hb (e ▸ hc)
  rw [State.feedLaw, setChannel_channel_ne _ _ hne]
  exact h.feed b hb

/-! ## Spare slots -/

/-- R79: a slot is neither the feeding slot of its channel nor its switch target. -/
def State.spare (s : State) (x : TankId) : Prop :=
  (s.channel (channelOf x)).feed ≠ .fed (sideOf x) ∧ ∀ n, (s.channel (channelOf x)).feed ≠ .switching (sideOf x) n

theorem spare_iff (s : State) (x : TankId) : s.spare x ↔
    (∀ y, (s.channel (channelOf x)).feed = .fed y → tankOf (channelOf x) y ≠ x) ∧
      ∀ y n, (s.channel (channelOf x)).feed = .switching y n → tankOf (channelOf x) y ≠ x := by
  simp only [State.spare, ne_eq, tankOf_eq_iff, true_and]
  refine and_congr ⟨fun h y hy e => h (e ▸ hy), fun h hx => h _ hx rfl⟩
    ⟨fun h y n hy e => h n (e ▸ hy), fun h n hx => h _ n hx rfl⟩

/-- A slot that does not feed and could not take a switchover is spare. -/
theorem spare_of_role {x : TankId} (h : s.feedLaw (channelOf x)) (hf : (s.tank x).role ≠ .held .feeding false)
    (hc : (s.tank x).role ≠ .held .standby false) : s.spare x := by
  have hx : s.roleOf (channelOf x) (sideOf x) = (s.tank x).role := by simp [State.roleOf]
  refine ⟨fun e => hf ?_, fun n e => hc ?_⟩ <;> rw [State.feedLaw, e] at h <;> exact hx.symm.trans h.1

/-- A spare slot may take any value but a FEEDING one, and READING where a READ of it stands. -/
theorem setTank_spare (h : s.inkLawful) {x : TankId} (hx : s.spare x) {v : TankSlot}
    (hv : ∀ b, v.role ≠ .held .feeding b) (hr : v.role = .reading ∨ s.quiet x) : (s.setTank x v).inkLawful := by
  refine inkLawfulBut_close (c := channelOf x) (setTank_inkLawfulBut (inkLawfulBut_or h _) (.inr rfl) hr) ?_
  have hl := inkLawful_feed h (channelOf x)
  have hset : ∀ y, (s.setTank x v).roleOf (channelOf x) y =
      if sideOf x = y then v.role else s.roleOf (channelOf x) y := fun y => by
    rw [State.roleOf, setTank_tank]
    by_cases hy : sideOf x = y
    · subst hy; simp
    · rw [if_neg hy, if_neg fun e => hy (by rw [e, sideOf_tankOf]), State.roleOf]
  obtain ⟨hfed, hsw⟩ := hx
  unfold State.feedLaw at hl ⊢
  rw [setTank_channel]
  unfold Feed.lawful at hl ⊢
  split at hl
  · rename_i y hy
    have hne : sideOf x ≠ y := fun e => hfed (e ▸ hy)
    refine ⟨by rw [hset, if_neg hne, hl.1], fun b => ?_⟩
    rw [hset]
    split
    · exact hv b
    · exact hl.2 b
  · rename_i y n hy
    have hne : sideOf x ≠ y := fun e => hsw n (e ▸ hy)
    refine ⟨by rw [hset, if_neg hne, hl.1], ?_⟩
    rw [hset]
    split
    · exact hv true
    · exact hl.2
  · intro y b
    rw [hset]
    split
    · exact hv b
    · exact hl y b

end

end Sys2Proof.Machine
end

section
/-! PROOF. One FEEDING slot to a channel, and READs at READING slots (R79 law 2, R96): each operation of the ink
supply controller and of the tag bus keeps them. -/

namespace Sys2Proof.Machine

open Sys2Proof

theorem raise_inkLawful {s : State} (h : s.inkLawful) (k : Notice) : (s.raise k).inkLawful :=
  inkLawful_of_same h (by simp)

/-! ## Switchover -/

section
variable {s : State} {c : ChannelId} {p : ChannelId → Prop}

@[simp] theorem switchTest_tank (s : State) (c : ChannelId) (x : TankId) : (s.switchTest c).tank x = s.tank x := by
  unfold State.switchTest
  (repeat' split) <;> rfl

/-- R70, R71: a switchover starts to a slot that can take it, from one that is not being released. -/
theorem startSwitch_inkLawfulBut (h : s.inkLawfulBut p) {y : Side} (hy : (s.tank (tankOf c y)).isCandidate = true)
    (ho : s.roleOf c y.other ≠ .held .feeding true) : (s.startSwitch c y).inkLawfulBut p := by
  refine inkLawfulBut_close (c := c) (setChannel_inkLawfulBut (inkLawfulBut_or h c) (.inr rfl) _) ?_
  rw [State.feedLaw, State.startSwitch, setChannel_channel_self]
  exact ⟨(isCandidate_role _).mp hy, ho⟩

/-- No slot of a channel is FEEDING. -/
def State.noneFeeds (s : State) (c : ChannelId) : Prop := ∀ y b, s.roleOf c y ≠ .held .feeding b

theorem switchTest_inkLawfulBut (h : s.inkLawfulBut p) (hc : s.feedLaw c) : (s.switchTest c).inkLawfulBut p := by
  unfold State.switchTest
  split
  · exact h
  · rename_i hf
    rw [State.feedLaw, hf] at hc
    split
    · exact startSwitch_inkLawfulBut h ‹_› (hc _ true)
    · split
      · exact startSwitch_inkLawfulBut h ‹_› (hc _ true)
      · exact h
  · rename_i y hf
    rw [State.feedLaw, hf] at hc
    split
    · exact h
    · split
      · rename_i hd
        refine startSwitch_inkLawfulBut h (Bool.and_eq_true_iff.mp hd).2 ?_
        rw [other_other, hc.1]
        simp
      · exact h

theorem switchTest_inkLawful (h : s.inkLawful) (c : ChannelId) : (s.switchTest c).inkLawful :=
  switchTest_inkLawfulBut h (inkLawful_feed h c)

/-- R73, R77, R78: a channel becomes STARVED once none of its slots feeds. -/
theorem starve_inkLawful (h : s.inkLawfulBut fun b => False ∨ b = c) (hn : s.noneFeeds c) :
    (s.setChannel c { s.channel c with feed := .starved }).inkLawful := by
  refine inkLawfulBut_close (setChannel_inkLawfulBut h (.inr rfl) _) ?_
  rw [State.feedLaw, setChannel_channel_self]
  exact hn

theorem loseFeeding_inkLawful (h : s.inkLawfulBut fun b => False ∨ b = c) (hn : s.noneFeeds c) :
    (s.loseFeeding c).inkLawful :=
  inkLawful_of_same (switchTest_inkLawful (starve_inkLawful h hn) c) (by simp [State.loseFeeding])

/-! ## A slot that leaves FEEDING -/

theorem awayState_ne (r : TankRecord) : r.awayState ≠ .feeding := by
  unfold TankRecord.awayState
  split <;> simp

theorem writeBackIfNeeded_role (s : State) (t x : TankId) :
    ((s.writeBackIfNeeded t).tank x).role = (s.tank x).role := (writeBackIfNeeded_steady t).role x

theorem leaveFeeding_role (s : State) (t : TankId) (b : Bool) :
    ((s.leaveFeeding t).tank t).role ≠ .held .feeding b := by
  unfold State.leaveFeeding
  split
  · rename_i r _
    rw [writeBackIfNeeded_role, setTank_tank_self, role_held]
    exact fun e => awayState_ne r (Role.held.inj e).1
  · rename_i hn
    rw [ne_eq, role_eq_held]
    rintro ⟨r, hr, -⟩
    exact hn r hr

theorem leaveFeeding_tank_ne (s : State) {t x : TankId} (hx : x ≠ t) : (s.leaveFeeding t).tank x = s.tank x := by
  unfold State.leaveFeeding
  split
  · rw [writeBackIfNeeded_tank_ne _ hx, setTank_tank_ne _ _ hx.symm]
  · rfl

@[simp] theorem leaveFeeding_channel (s : State) (t : TankId) (b : ChannelId) :
    (s.leaveFeeding t).channel b = s.channel b := by
  unfold State.leaveFeeding
  split
  · rw [writeBackIfNeeded_channel, setTank_channel]
  · rfl

theorem leaveFeeding_inkLawfulBut (h : s.inkLawfulBut p) (hp : p c) (y : Side) :
    (s.leaveFeeding (tankOf c y)).inkLawfulBut p := by
  unfold State.leaveFeeding
  split
  · exact steady_inkLawfulBut (writeBackIfNeeded_steady _)
      (setTank_inkLawfulBut h ((channelOf_tankOf c y).symm ▸ hp) (.inr (quiet_of_held h ‹_›)))
  · exact h

/-- Neither slot feeds where the one does not and the other does not. -/
theorem noneFeeds_of_sides {y : Side} (hy : ∀ b, s.roleOf c y ≠ .held .feeding b)
    (ho : ∀ b, s.roleOf c y.other ≠ .held .feeding b) : s.noneFeeds c := fun z =>
  (eq_or_eq_other y z).elim (fun e => e ▸ hy) fun e => e ▸ ho

/-- R73: a switchover whose target does not feed is abandoned: the outgoing slot leaves FEEDING, the channel is
STARVED, and the test of R70 follows. -/
theorem abandonSwitch_inkLawfulBut (h : s.inkLawfulBut fun b => p b ∨ b = c) {y : Side} {n : Nat}
    (hf : (s.channel c).feed = .switching y n) (hy : ∀ b, s.roleOf c y ≠ .held .feeding b) :
    (s.abandonSwitch c).inkLawfulBut p := by
  have hl := leaveFeeding_inkLawfulBut (setChannel_inkLawfulBut h (.inr rfl) { s.channel c with feed := .starved })
    (.inr rfl) y.other
  simp only [State.abandonSwitch, hf]
  generalize hu : (s.setChannel c { s.channel c with feed := .starved }).leaveFeeding (tankOf c y.other) = u at hl ⊢
  have hn : u.noneFeeds c := by
    subst hu
    refine noneFeeds_of_sides (y := y) (fun b => ?_) (leaveFeeding_role _ _)
    rw [State.roleOf, leaveFeeding_tank_ne _ (tankOf_other_ne c y).symm, setChannel_tank]
    exact hy b
  have hc : u.feedLaw c := by
    have hs : (u.channel c).feed = .starved := by rw [← hu, leaveFeeding_channel, setChannel_channel_self]
    rw [State.feedLaw, hs]
    exact hn
  exact switchTest_inkLawfulBut (inkLawfulBut_of_same (inkLawfulBut_close hl hc) (by simp)) hc

/-! ## Debits -/

/-- R79: the feeding slot of a FED channel, and its other slot. -/
theorem feedLaw_fed {y : Side} (h : s.feedLaw c) (hf : (s.channel c).feed = .fed y) :
    s.roleOf c y = .held .feeding false ∧ ∀ b, s.roleOf c y.other ≠ .held .feeding b := by
  rwa [State.feedLaw, hf] at h

theorem runDry_inkLawful (h : s.inkLawful) (c : ChannelId) : (s.runDry c).inkLawful := by
  by_cases hd : ∃ y st r, s.drawsFrom c y st r
  · obtain ⟨y, st, r, hd⟩ := hd
    rcases Nat.eq_zero_or_pos r.fill with h0 | h0
    · obtain ⟨-, ho⟩ := feedLaw_fed (inkLawful_feed h c) hd.1
      have hset := setTank_inkLawfulBut (inkLawfulBut_or h c) (x := tankOf c y)
        (v := .held (if st = .feeding then .depleted else st) r) (.inr (channelOf_tankOf c y))
        (.inr (quiet_of_held h hd.2))
      rw [runDry_empty hd h0]
      refine inkLawful_of_same (starve_inkLawful (steady_inkLawfulBut (writeBackIfNeeded_steady (tankOf c y)) hset) ?_)
        ?_
      · refine noneFeeds_of_sides (y := y) (fun b => ?_) fun b => ?_
        · rw [State.roleOf, writeBackIfNeeded_role, setTank_tank_self, role_held]
          split <;> simp_all
        · rw [State.roleOf, writeBackIfNeeded_role, setTank_tank_ne _ _ (tankOf_other_ne c y).symm]
          exact ho b
      · simp
    · rw [runDry_left hd h0]
      exact h
  · have hn : s.runDry c = s := by
      unfold State.runDry
      split
      · split
        · exact absurd ⟨_, _, _, ‹_›, ‹_›⟩ hd
        · rfl
      · rfl
    rw [hn]
    exact h

theorem overdraw_steady (s : State) (c : ChannelId) (n : Nat) (t : Option TicketId) (d m : Nat) :
    s.steady ((s.overdrawChannel c n).inkTicket c t d m) := by
  have ho : s.steady (s.overdrawChannel c n) := setChannel_steady c rfl
  exact steady_trans ho (steady_of_same (by simp))

theorem split_steady {y : Side} {st : HeldState} {r : TankRecord} (hd : s.drawsFrom c y st r) (d : Nat)
    (t : Option TicketId) : s.steady (s.split c y st r d t) := by
  have hset : s.steady (s.setTank (tankOf c y) (.held st { r with fill := r.fill - min d r.fill })) :=
    setTank_steady (by rw [hd.2]; rfl)
  exact steady_trans hset (overdraw_steady _ c _ t d _)

theorem noted_steady (s : State) (c : ChannelId) (t : TankId) (before : Nat) (r : TankRecord) :
    s.steady (s.noted c t before r) := by
  have hw : s.steady (s.warned c before r) := steady_of_same (by simp [State.warned])
  rcases noted_cases s c t before r with ⟨-, e⟩ | ⟨-, e⟩ <;> rw [e]
  · exact steady_trans hw (writeBack_steady t)
  · exact hw

/-- R74, R75: a debit moves a fill, and may then start a switchover or run the channel dry. -/
theorem debit_inkLawful (h : s.inkLawful) (c : ChannelId) (d : Nat) (t : Option TicketId) :
    (s.debit c d t).1.inkLawful := by
  by_cases hd : ∃ y st r, s.drawsFrom c y st r
  · obtain ⟨y, st, r, hd⟩ := hd
    rw [debit_split hd]
    exact runDry_inkLawful (switchTest_inkLawful (steady_inkLawful (noted_steady _ _ _ _ _)
      (steady_inkLawful (split_steady hd d t) h)) c) c
  · rw [debit_beyond (by simpa using hd)]
    exact steady_inkLawful (overdraw_steady s c d t d d) h

theorem debitTicket_inkLawful (h : s.inkLawful) (t : TicketId) (c : ChannelId) (d : Nat) :
    (s.debitTicket t c d).inkLawful := by
  unfold State.debitTicket
  split
  · exact h
  · have hd := debit_inkLawful h c d (some t)
    exact inkLawful_of_same hd (by simp)

theorem meterChannel_inkLawful (h : s.inkLawful) (t : TicketId) (n : DropCounts) (c : ChannelId) :
    (s.meterChannel t n c).inkLawful := by
  unfold State.meterChannel
  split
  · exact h
  · exact debitTicket_inkLawful (inkLawful_of_same h (by simp)) t c _

theorem meterSwath_inkLawful (h : s.inkLawful) (t : TicketId) (counts : Vector DropCounts 12) :
    (s.meterSwath t counts).inkLawful :=
  List.foldlRecOn _ _ h fun _ h c _ => meterChannel_inkLawful h t counts[c] c

theorem purgeChannel_inkLawful (h : s.inkLawful) (v : Nat) (c : ChannelId) : (s.purgeChannel v c).inkLawful := by
  unfold State.purgeChannel
  dsimp only
  split
  · exact h
  · have hd := debit_inkLawful h c (min 2000000 v) none
    exact inkLawful_of_same hd (by simp)

theorem chargePurge_inkLawful (h : s.inkLawful) (volumes : Vector Nat 12) : (s.chargePurge volumes).inkLawful :=
  List.foldlRecOn _ _ h fun _ h c _ => purgeChannel_inkLawful h volumes[c] c

/-! ## The switch timer -/

/-- R72: the target feeds, and the outgoing slot leaves FEEDING. -/
theorem completeSwitch_inkLawful (h : s.inkLawful) {y : Side} {n : Nat} (hf : (s.channel c).feed = .switching y n) :
    (s.completeSwitch c y).inkLawful := by
  have hc := inkLawful_feed h c
  rw [State.feedLaw, hf] at hc
  obtain ⟨r, hr, hrel⟩ := role_eq_held.mp hc.1
  have hfeed : (s.feedFrom c y r).inkLawfulBut fun b => False ∨ b = c :=
    setChannel_inkLawfulBut (setTank_inkLawfulBut (inkLawfulBut_or h c) (.inr (channelOf_tankOf c y))
      (.inr (quiet_of_held h hr))) (.inr rfl) _
  have hleft := leaveFeeding_inkLawfulBut hfeed (.inr rfl) y.other
  have hlaw : ((s.feedFrom c y r).leaveFeeding (tankOf c y.other)).feedLaw c := by
    rw [State.feedLaw, leaveFeeding_channel, State.feedFrom, setChannel_channel_self]
    refine ⟨?_, leaveFeeding_role _ _⟩
    rw [State.roleOf, leaveFeeding_tank_ne _ (tankOf_other_ne c y).symm, setChannel_tank, setTank_tank_self, role_held, hrel]
  simp only [State.completeSwitch, hr, TankSlot.record]
  exact switchTest_inkLawful (inkLawful_of_same (inkLawfulBut_close hleft hlaw) (by simp)) c

end

/-! ## Tags read and written -/

section
variable {s : State} (h : s.inkLawful)
include h

/-- R68, R69: a READING slot whose READ is over takes what the image or its absence makes of it. -/
theorem setTank_read {x : TankId} {v : TankSlot} (hr : (s.tank x).role = .reading) (hq : s.quiet x)
    (hv : ∀ b, v.role ≠ .held .feeding b) : (s.setTank x v).inkLawful :=
  setTank_spare h (spare_of_role (inkLawful_feed h _) (by simp [hr]) (by simp [hr])) hv (.inr hq)

theorem rejectBare_inkLawful {x : TankId} (hr : (s.tank x).role = .reading) (hq : s.quiet x) (reason : BareReason) :
    (s.rejectBare x reason).inkLawful :=
  inkLawful_of_same (setTank_read h hr hq (v := .rejectedBare reason (s.tank x).remembered) (by simp))
    (by simp [State.rejectBare])

theorem takeImage_inkLawful {x : TankId} (hr : (s.tank x).role = .reading) (hq : s.quiet x) (b : List Byte) :
    (s.takeImage x b).inkLawful := by
  have hset : ∀ st r, st ≠ .feeding → (s.setTank x (.held st r)).inkLawful := fun st r hst =>
    setTank_read h hr hq fun _ e => hst (Role.held.inj e).1
  unfold State.takeImage
  dsimp only
  split
  · exact rejectBare_inkLawful h hr hq _
  · exact raise_inkLawful (hset .rejectedKind _ (by decide)) _
  · exact raise_inkLawful (hset .rejectedExpired _ (by decide)) _
  · split
    · exact hset _ _ (by decide)
    · exact switchTest_inkLawful (hset _ _ (by decide)) _

/-- R81: a slot whose release ends was spare, and every other one keeps its role. -/
theorem writeEnded_inkLawful (x : TankId) (fill : Nat) (written : Bool) : (s.writeEnded x fill written).inkLawful := by
  unfold State.writeEnded
  split
  · rename_i st r hx
    have hq := quiet_of_held h hx
    cases hrel : r.releasePending with
    | true =>
      have hrole : (s.tank x).role = .held st true := by rw [hx, role_held, hrel]
      refine setTank_spare h (spare_of_role (inkLawful_feed h _) ?_ ?_) ?_ (.inr hq) <;>
        simp [hrole, HeldState.afterWrite]
    | false => exact steady_inkLawful (setTank_steady (by simp [hx, hrel, HeldState.afterWrite])) h
  · exact h

end

/-! ## The ends of transactions -/

section
variable {s : State} (h : s.inkLawful)
include h

/-- R96: the slot of a READ on the bus is READING, and no other READ of it is pending. -/
theorem reads_reading {tx : TagTransaction} (hp : s.tags.phase = .request tx ∨ ∃ n, s.tags.phase = .turnaround tx n)
    (ho : tx.op = .read) : (s.tank tx.slot).role = .reading ∧ s.tags.waiting[tx.slot] ≠ some .read :=
  (h.read tx.slot).2 ⟨tx, hp, ho, rfl⟩

omit h in
theorem phase_steady {b : TagBus} (hw : b.waiting = s.tags.waiting) (hp : ∀ x, b.phase.reads x → s.tags.phase.reads x) :
    s.steady (s.withTags b) :=
  ⟨fun _ _ => id, fun _ => rfl, fun x => by rw [withTags_tags, hw]; exact id, hp⟩

omit h in
theorem not_reads_idle (x : TankId) : ¬ TagPhase.idle.reads x := by
  rintro ⟨tx, hp | ⟨n, hp⟩, -⟩ <;> cases hp

omit h in
theorem not_reads_guard (n : Nat) (x : TankId) : ¬ (TagPhase.guard n).reads x := by
  rintro ⟨tx, hp | ⟨m, hp⟩, -⟩ <;> cases hp

omit h in
theorem reads_request (tx : TagTransaction) (x : TankId) : (TagPhase.request tx).reads x ↔ tx.op = .read ∧ tx.slot = x := by
  simp [TagPhase.reads]

omit h in
theorem reads_turnaround (tx : TagTransaction) (n : Nat) (x : TankId) :
    (TagPhase.turnaround tx n).reads x ↔ tx.op = .read ∧ tx.slot = x := by
  simp [TagPhase.reads]

/-- R91, R93: the bus is released. -/
theorem freeBus_inkLawful : s.freeBus.inkLawful :=
  steady_inkLawful (phase_steady rfl fun x hx => absurd hx (not_reads_idle x)) h

theorem endWrite_inkLawful (x : TankId) (fill : Nat) (written : Bool) : (s.endWrite x fill written).inkLawful := by
  have hf : (s.freeBus.raiseIf (!written) .tagFault).inkLawful := inkLawful_of_same (freeBus_inkLawful h) (by simp)
  unfold State.endWrite
  dsimp only
  split
  · exact writeEnded_inkLawful hf x fill written
  · exact hf

variable {tx : TagTransaction} {n : Nat} (hp : s.tags.phase = .turnaround tx n)
include hp

/-- R95: the attempt is made again with the same operation at the same slot. -/
theorem retryTag_inkLawful : (s.retryTag tx).inkLawful := by
  refine inkLawful_of_same (s := s.withTags { s.tags with phase := .request { tx with retry := true } })
    (steady_inkLawful (phase_steady rfl fun x hx => ?_) h) (by simp [State.retryTag])
  rw [reads_request] at hx
  rw [hp, reads_turnaround]
  exact hx

/-- R91: at the end of a READ its slot is still READING, and quiet. -/
theorem freeBus_read (ho : tx.op = .read) : (s.freeBus.tank tx.slot).role = .reading ∧ s.freeBus.quiet tx.slot := by
  obtain ⟨hr, hw⟩ := reads_reading h (.inr ⟨n, hp⟩) ho
  exact ⟨hr, hw, not_reads_idle _⟩

theorem rejectRead_inkLawful (ho : tx.op = .read) (reason : BareReason) :
    (s.freeBus.rejectBare tx.slot reason).inkLawful := by
  obtain ⟨hr, hq⟩ := freeBus_read h hp ho
  exact rejectBare_inkLawful (freeBus_inkLawful h) hr hq reason

theorem missed_inkLawful (m : Miss) : (s.missed tx m).inkLawful := by
  unfold State.missed
  split
  · exact retryTag_inkLawful h hp
  · split
    · exact rejectRead_inkLawful h hp ‹_› _
    · exact rejectRead_inkLawful h hp ‹_› _
    · exact endWrite_inkLawful h _ _ _

theorem endImage_inkLawful (ho : tx.op = .read) (b : List Byte) : (s.endImage tx.slot b).inkLawful := by
  obtain ⟨hr, hw⟩ := reads_reading h (.inr ⟨n, hp⟩) ho
  have hfree : (s.withTags { s.tags with
      phase := .idle, images := put s.tags.images tx.slot (some (b.take 18)) }).inkLawful :=
    steady_inkLawful (phase_steady rfl fun x hx => absurd hx (not_reads_idle x)) h
  exact takeImage_inkLawful hfree hr ⟨hw, not_reads_idle _⟩ b

omit h hp in
/-- R90: an image is the answer to a READ. -/
theorem judgeAnswer_image {f b : List Byte} (h : judgeAnswer tx f = .image b) : tx.op = .read := by
  unfold judgeAnswer at h
  split at h
  · cases h
  · split at h
    · assumption
    · split at h <;> cases h
    · split at h
      · cases h
      · split at h <;> cases h
    · cases h

theorem answered_inkLawful (f : List Byte) : (s.answered tx (judgeAnswer tx f)).inkLawful := by
  unfold State.answered
  split
  · exact endImage_inkLawful h hp (judgeAnswer_image ‹_›) _
  · exact endWrite_inkLawful h _ _ _
  · exact rejectRead_inkLawful h hp ‹_› _
  · exact endWrite_inkLawful h _ _ _
  · exact endWrite_inkLawful h _ _ _
  · exact missed_inkLawful h hp _

end

/-! ## The bus takes an operation -/

theorem serveTags_inkLawful {s : State} (h : s.inkLawful) : s.serveTags.inkLawful := by
  unfold State.serveTags
  split
  · rename_i t hp hn
    split
    · rename_i op hop
      refine inkLawful_of_same (s := s.withTags { s.tags with
        phase := .request { slot := t, op := op, retry := false }, waiting := put s.tags.waiting t none, pointer := t })
        ⟨fun c _ => inkLawful_feed h c, fun x => ?_⟩ (by simp)
      have hw : (put s.tags.waiting t none)[x] = some .read → t ≠ x ∧ s.tags.waiting[x] = some .read := by
        simp only [Fin.getElem_fin, put_get]
        split
        · exact nofun
        · exact fun e => ⟨‹_›, e⟩
      obtain ⟨hread, -⟩ := h.read x
      refine ⟨fun e => hread (hw e).2, fun e => ?_⟩
      rw [withTags_tags, reads_request] at e
      obtain ⟨rfl, rfl⟩ := e
      exact ⟨hread hop, fun e => (hw e).1 rfl⟩
    · exact h
  · exact h

end Sys2Proof.Machine
end

section
/-! PROOF. One FEEDING slot to a channel, and READs at READING slots (R79 law 2, R96): seating and removal, the date,
releases and re-reads. -/

namespace Sys2Proof.Machine

open Sys2Proof

section
variable {s : State} {c : ChannelId}

/-! ## Seating and reading again -/

/-- R67, R83, R96: a READ joins the pending set at a READING slot that is not read already. -/
theorem queueRead_inkLawful (h : s.inkLawful) {x : TankId} (hx : (s.tank x).role = .reading)
    (hb : ¬ s.tags.phase.reads x) : (s.queueTag x .read).inkLawful := by
  refine ⟨fun c _ => inkLawful_feed h c, fun z => ?_⟩
  rw [State.readLaw, queueTag_tags, queueTag_tank, coalesce_read]
  simp only [Fin.getElem_fin, put_get]
  split
  · subst_vars
    exact ⟨fun _ => hx, fun e => absurd e hb⟩
  · exact h.read z

/-- R67, R83: a slot with no use for its channel is READING from now on, and its READ is queued. -/
theorem readAgain_inkLawful (h : s.inkLawful) {x : TankId} (hx : s.spare x) (hr : (s.tank x).role ≠ .reading)
    (m : Option Nat) : ((s.setTank x (.reading m)).queueTag x .read).inkLawful := by
  obtain ⟨hw, hb⟩ := quiet_of_role (h.read x) hr
  exact queueRead_inkLawful (setTank_spare h hx (v := .reading m) (by simp) (.inl rfl)) (by simp) hb

theorem seatTank_inkLawful (h : s.inkLawful) (x : TankId) : (s.seatTank x).inkLawful := by
  unfold State.seatTank
  split
  · rename_i he
    have hread := readAgain_inkLawful h (x := x) (spare_of_role (inkLawful_feed h _) (by simp [he]) (by simp [he]))
      (by simp [he]) none
    exact inkLawful_of_same hread (by simp)
  · exact h

theorem seatPresent_inkLawful (h : s.inkLawful) : s.seatPresent.inkLawful := by
  refine List.foldlRecOn _ _ h fun s h x _ => ?_
  split
  · exact seatTank_inkLawful h x
  · exact h

/-! ## Removal -/

theorem setPresence_inkLawful (h : s.inkLawful) (x : TankId) (level : Bool) : (s.setPresence x level).inkLawful :=
  ⟨fun c _ => inkLawful_feed h c, h.read⟩

/-- R99: a presence fall leaves no READ of its slot, and brings none. -/
theorem fall_steady (s : State) (x : TankId) :
    s.steady (s.withTags (s.tags.fall x)) ∧ (s.withTags (s.tags.fall x)).quiet x := by
  have hwait : (s.tags.fall x).waiting = put s.tags.waiting x none := by
    unfold TagBus.fall
    dsimp only
    (repeat' split) <;> rfl
  have hbus : ∀ z, (s.tags.fall x).phase.reads z → s.tags.phase.reads z ∧ z ≠ x := by
    intro z hz
    unfold TagBus.fall at hz
    dsimp only at hz
    split at hz
    · rename_i tx hp
      split at hz
      · exact absurd hz (not_reads_guard 5 z)
      · rw [hp, reads_request] at *
        exact ⟨hz, fun e => ‹¬ tx.slot = x› (hz.2.trans e)⟩
    · rename_i tx n hp
      split at hz
      · exact absurd hz (not_reads_guard 5 z)
      · rw [hp, reads_turnaround] at *
        exact ⟨hz, fun e => ‹¬ tx.slot = x› (hz.2.trans e)⟩
    · rename_i hreq hturn
      obtain ⟨tx, hp, -⟩ := hz
      rcases hp with hp | ⟨n, hp⟩
      · exact absurd hp (hreq tx)
      · exact absurd hp (hturn tx n)
  refine ⟨⟨fun _ _ => id, fun _ => rfl, fun z => ?_, fun z hz => (hbus z hz).1⟩, ?_, fun hz => (hbus x hz).2 rfl⟩
  · rw [withTags_tags, hwait]
    simp only [Fin.getElem_fin, put_get]
    split
    · exact nofun
    · exact id
  · rw [withTags_tags, hwait]
    simp

/-- R78: the removal of a slot costs its channel its feeding slot, or its switch target, or nothing. -/
theorem removeTank_inkLawful (h : s.inkLawful) (x : TankId) : (s.removeTank x).inkLawful := by
  unfold State.removeTank
  split
  · exact h
  · obtain ⟨hsteady, hquiet⟩ := fall_steady s x
    have hfall := steady_inkLawful hsteady h
    generalize hu : s.withTags (s.tags.fall x) = u at hfall hquiet
    have hfeed := inkLawful_feed hfall (channelOf x)
    have hbut : ((u.setTank x .empty).raise .tankRemoved).inkLawfulBut fun b => False ∨ b = channelOf x :=
      inkLawfulBut_of_same
        (setTank_inkLawfulBut (inkLawfulBut_or hfall _) (.inr rfl) (v := .empty) (.inr hquiet)) (by simp)
    have hgone : ∀ b, ((u.setTank x .empty).raise .tankRemoved).roleOf (channelOf x) (sideOf x) ≠ .held .feeding b := by
      simp [State.roleOf]
    have hother : ((u.setTank x .empty).raise .tankRemoved).roleOf (channelOf x) (sideOf x).other =
        u.roleOf (channelOf x) (sideOf x).other := by
      have hne : tankOf (channelOf x) (sideOf x).other ≠ x := fun e => other_ne _ ((tankOf_eq_iff _ _ _).mp e).2
      rw [State.roleOf, raise_tank, setTank_tank_ne _ _ hne.symm, State.roleOf]
    have hspare (hx : u.spare x) : ((u.setTank x .empty).raise .tankRemoved).inkLawful :=
      raise_inkLawful (setTank_spare hfall hx (v := .empty) (by simp) (.inr hquiet)) _
    simp only [State.afterRemoval, raise_channel, setTank_channel]
    split
    · rename_i y hy
      split
      · rename_i hxy
        subst hxy
        refine loseFeeding_inkLawful hbut (noneFeeds_of_sides hgone fun b => ?_)
        rw [hother]
        exact (feedLaw_fed hfeed hy).2 b
      · refine hspare ⟨fun e => ?_, fun n e => ?_⟩
        · exact ‹¬ sideOf x = y› (Feed.fed.inj (e.symm.trans hy))
        · exact nomatch e.symm.trans hy
    · rename_i y n hy
      split
      · rename_i hxy
        subst hxy
        exact abandonSwitch_inkLawfulBut hbut hy hgone
      · refine hspare ⟨fun e => ?_, fun m e => ?_⟩
        · exact nomatch e.symm.trans hy
        · exact ‹¬ sideOf x = y› (Feed.switching.inj (e.symm.trans hy)).1
    · rename_i hy
      exact hspare ⟨fun e => (nomatch e.symm.trans hy), fun n e => nomatch e.symm.trans hy⟩

/-! ## Release -/

/-- R82: the slot feeds its channel now. -/
theorem feedsNow_iff (s : State) (x : TankId) :
    s.feedsNow x = true ↔ (s.channel (channelOf x)).feed = .fed (sideOf x) := by
  unfold State.feedsNow
  split
  · rename_i y hy
    simp [hy]
  · rename_i hn
    exact ⟨nofun, fun e => absurd e (hn _)⟩

/-- R82: a slot that may be released holds a record and is not being released. -/
theorem releasable_iff (v : TankSlot) : v.releasable = true ↔
    ∃ st r, v = .held st r ∧ (st = .standby ∨ st = .feeding ∨ st = .spent ∨ st = .depleted) ∧ r.releasePending = false := by
  rcases v with _ | _ | _ | ⟨st, r⟩
  case held => cases st <;> simp [TankSlot.releasable]
  all_goals simp [TankSlot.releasable]

/-- A slot with its write-back queued and its release pending (R80, R82). -/
def State.releasing (s : State) (x : TankId) : State :=
  (s.writeBack x).setTank x (((s.writeBack x).tank x).modRecord fun r => { r with releasePending := true })

theorem release_eq (s : State) {x : TankId} {st : HeldState} {r : TankRecord} (hx : s.tank x = .held st r) :
    s.release x =
      if (s.channel (channelOf x)).feed = .fed (sideOf x) then
        ((s.releasing x).setTank x (.held r.awayState { r with writeMark := r.fill, releasePending := true })).loseFeeding
          (channelOf x)
      else s.releasing x := by
  have ht : (s.releasing x).tank x = .held st { r with writeMark := r.fill, releasePending := true } := by
    rw [State.releasing, setTank_tank_self, writeBack_tank hx]
    rfl
  have hf : (s.releasing x).feedsNow x = true ↔ (s.channel (channelOf x)).feed = .fed (sideOf x) := by
    rw [feedsNow_iff, State.releasing, setTank_channel, writeBack_channel]
  have hr : s.release x = if (s.releasing x).feedsNow x then
      match (s.releasing x).tank x with
      | .held _ r => ((s.releasing x).setTank x (.held r.awayState r)).loseFeeding (channelOf x)
      | _ => s.releasing x
    else s.releasing x := rfl
  rw [hr, ht]
  exact if_congr hf rfl rfl

/-- R82: a slot that is neither in a switchover nor feeding is released where it stands; a feeding one leaves its
channel. -/
theorem release_inkLawful (h : s.inkLawful) {x : TankId} (hrel : (s.tank x).releasable = true)
    (hsw : s.inSwitchover x = false) : (s.release x).inkLawful := by
  obtain ⟨st, r, hx, hst, hp⟩ := (releasable_iff _).mp hrel
  have hw := steady_inkLawful (writeBack_steady x) h
  have hwx : (s.writeBack x).tank x = .held st { r with writeMark := r.fill } := writeBack_tank hx
  have hq := quiet_of_held hw hwx
  have hlaw := inkLawful_feed h (channelOf x)
  have hrole : s.roleOf (channelOf x) (sideOf x) = .held st false := by simp [State.roleOf, hx, hp]
  have hswitch : ∀ y n, (s.channel (channelOf x)).feed = .switching y n → y ≠ sideOf x ∧ st ≠ .feeding := by
    intro y n hy
    unfold State.inSwitchover at hsw
    rw [hy, hx] at hsw
    cases st <;> simp_all
  rw [release_eq s hx]
  split
  · rename_i hy
    have hne : tankOf (channelOf x) (sideOf x).other ≠ x := fun e =>
      other_ne _ ((tankOf_eq_iff _ _ _).mp e).2
    refine loseFeeding_inkLawful (setTank_inkLawfulBut
      (setTank_inkLawfulBut (inkLawfulBut_or hw (channelOf x)) (.inr rfl) (.inr hq)) (.inr rfl) (.inr hq))
      (noneFeeds_of_sides (y := sideOf x) (fun b => ?_) fun b => ?_)
    · rw [State.roleOf, tankOf_channelOf, setTank_tank_self, role_held]
      exact fun e => awayState_ne r (Role.held.inj e).1
    · rw [State.roleOf, setTank_tank_ne _ _ hne.symm, State.releasing, setTank_tank_ne _ _ hne.symm,
        writeBack_tank_ne _ hne]
      exact (feedLaw_fed hlaw hy).2 b
  · rename_i hy
    refine setTank_spare hw ⟨by rwa [writeBack_channel], fun n e => ?_⟩ ?_ (.inr hq)
    · exact (hswitch _ n (by rwa [writeBack_channel] at e)).1 rfl
    · rw [hwx]
      intro b e
      obtain ⟨rfl, -⟩ := Role.held.inj e
      unfold State.feedLaw Feed.lawful at hlaw
      split at hlaw
      · rename_i y hf
        rcases eq_or_eq_other y (sideOf x) with e | e
        · exact hy (e ▸ hf)
        · exact hlaw.2 _ (e ▸ hrole)
      · rename_i y n hf
        exact (hswitch y n hf).2 rfl
      · exact hlaw _ _ hrole

/-! ## The date -/

/-- R84: an expiry flagged leaves the slot's role. -/
theorem flagExpired_steady (s : State) (date : Nat) (x : TankId) : s.steady (s.flagExpired date x) := by
  unfold State.flagExpired
  split
  · rename_i hx
    split
    · exact setTank_steady (by rw [hx]; rfl)
    · exact steady_refl s
  · exact steady_refl s

/-- R84: the FEEDING slots past their expiry are flagged. -/
def State.flagAll (s : State) (date : Nat) : State :=
  (List.finRange 24).foldl (fun s t => s.flagExpired date t) s

/-- A fold over the slots that works on each by itself, in what is seen of a slot. -/
theorem foldl_pointwise {α : Type} (view : State → TankId → α) (f : State → TankId → State) (g : α → α)
    (hf : ∀ s t x, view (f s t) x = if t = x then g (view s x) else view s x) (ts : List TankId) (hn : ts.Nodup)
    (s : State) (x : TankId) : view (ts.foldl f s) x = if x ∈ ts then g (view s x) else view s x := by
  induction ts generalizing s with
  | nil => simp
  | cons t ts ih =>
    obtain ⟨ht, hn⟩ := List.nodup_cons.mp hn
    rw [List.foldl_cons, ih hn, hf]
    by_cases hx : t = x
    · subst hx
      simp [ht]
    · simp [hx, Ne.symm hx]

/-- R84: a slot once a date has rejected it, where it does. -/
def TankSlot.lapsed (v : TankSlot) (date : Nat) : TankSlot :=
  match v with
  | .held .standby r => if v.expires date then .held .rejectedExpired r else v
  | _ => v

theorem rejectExpired_tank_self (s : State) (date : Nat) (t : TankId) :
    (s.rejectExpired date t).tank t = (s.tank t).lapsed date := by
  unfold State.rejectExpired TankSlot.lapsed
  rcases ht : s.tank t with _ | _ | _ | ⟨st, r⟩
  case held =>
    cases st
    case standby =>
      dsimp only
      split <;> simp [ht]
    all_goals exact ht
  all_goals exact ht

theorem rejectExpired_tank (s : State) (date : Nat) (t x : TankId) :
    (s.rejectExpired date t).tank x = if t = x then (s.tank x).lapsed date else s.tank x := by
  by_cases hx : t = x
  · subst hx
    rw [if_pos rfl, rejectExpired_tank_self]
  · rw [if_neg hx, State.rejectExpired]
    split
    · split
      · rw [raise_tank, setTank_tank_ne _ _ hx]
      · rfl
    · rfl

theorem rejectExpired_same (s : State) (date : Nat) (t : TankId) :
    (s.rejectExpired date t).supply.channels = s.supply.channels ∧ (s.rejectExpired date t).tags = s.tags := by
  unfold State.rejectExpired
  split
  · split <;> exact ⟨rfl, rfl⟩
  · exact ⟨rfl, rfl⟩

/-- R84: the STANDBY slots past their expiry are rejected. -/
def State.rejectAll (s : State) (date : Nat) : State :=
  (List.finRange 24).foldl (fun s t => s.rejectExpired date t) s

theorem rejectAll_tank (s : State) (date : Nat) (x : TankId) : (s.rejectAll date).tank x = (s.tank x).lapsed date := by
  rw [State.rejectAll, foldl_pointwise State.tank (fun s t => s.rejectExpired date t) (TankSlot.lapsed · date)
    (fun s t x => rejectExpired_tank s date t x) _ (List.nodup_finRange 24), if_pos (List.mem_finRange x)]

theorem rejectAll_channels (s : State) (date : Nat) : (s.rejectAll date).supply.channels = s.supply.channels :=
  List.foldlRecOn (motive := fun u => u.supply.channels = s.supply.channels) _ _ rfl fun u hu x _ =>
    (rejectExpired_same u date x).1.trans hu

theorem rejectAll_tags (s : State) (date : Nat) : (s.rejectAll date).tags = s.tags :=
  List.foldlRecOn (motive := fun u => u.tags = s.tags) _ _ rfl fun u hu x _ =>
    (rejectExpired_same u date x).2.trans hu

theorem expires_role {v : TankSlot} {date : Nat} (h : v.expires date = true) : v.role = .held .standby false := by
  unfold TankSlot.expires at h
  split at h
  · simpa using (Bool.and_eq_true_iff.mp h).2
  · cases h

/-- A date rejects a slot or leaves it. -/
theorem lapsed_role (v : TankSlot) (date : Nat) :
    (v.lapsed date).role = if v.expires date then .held .rejectedExpired false else v.role := by
  by_cases he : v.expires date = true
  · obtain ⟨r, rfl, hr⟩ := role_eq_held.mp (expires_role he)
    simp [TankSlot.lapsed, he, hr]
  · unfold TankSlot.lapsed
    split <;> simp [he]

/-- What the rejections leave of a channel SWITCHING to a rejected slot. -/
def State.overdue (s before : State) (date : Nat) (c : ChannelId) : Prop :=
  ∃ y n, (s.channel c).feed = .switching y n ∧ (before.tank (tankOf c y)).expires date = true ∧
    ∀ b, s.roleOf c y ≠ .held .feeding b

theorem channel_congr {u s : State} (h : u.supply.channels = s.supply.channels) (c : ChannelId) :
    u.channel c = s.channel c := by
  rw [State.channel, h, State.channel]

/-- R84: the rejections cost a switchover its target, and no channel anything else. -/
theorem rejectAll_laws (h : s.inkLawful) (date : Nat) : (∀ x, (s.rejectAll date).readLaw x) ∧
    ∀ c, (s.rejectAll date).feedLaw c ∨ (s.rejectAll date).overdue s date c := by
  have hrole : ∀ x, ((s.rejectAll date).tank x).role =
      if (s.tank x).expires date then .held .rejectedExpired false else (s.tank x).role := fun x => by
    rw [rejectAll_tank, lapsed_role]
  have hother : ∀ x st b, st ≠ .rejectedExpired → (s.tank x).role ≠ .held st b →
      ((s.rejectAll date).tank x).role ≠ .held st b := fun x st b hst hx => by
    rw [hrole]
    split
    · exact fun e => hst (Role.held.inj e).1.symm
    · exact hx
  refine ⟨fun x => ?_, fun c => ?_⟩
  · have hread : (s.tank x).role = .reading → ((s.rejectAll date).tank x).role = .reading := fun hx => by
      rw [hrole, if_neg fun e => ?_, hx]
      rw [expires_role e] at hx
      cases hx
    obtain ⟨hw, hb⟩ := h.read x
    rw [State.readLaw, rejectAll_tags]
    exact ⟨fun e => hread (hw e), fun e => ⟨hread (hb e).1, (hb e).2⟩⟩
  · have hc := inkLawful_feed h c
    have hch := channel_congr (rejectAll_channels s date) c
    rw [State.feedLaw, hch, State.overdue, hch]
    unfold State.feedLaw at hc
    unfold Feed.lawful at hc ⊢
    split at hc
    · refine .inl ⟨?_, fun b => hother _ _ b (by decide) (hc.2 b)⟩
      rw [State.roleOf, hrole, if_neg fun e => ?_]
      · exact hc.1
      · exact nomatch (expires_role e).symm.trans hc.1
    · rename_i y n hf
      by_cases he : (s.tank (tankOf c y)).expires date = true
      · refine .inr ⟨y, n, hf, he, fun b => ?_⟩
        rw [State.roleOf, hrole, if_pos he]
        exact fun e => nomatch (Role.held.inj e).1
      · refine .inl ⟨?_, hother _ _ _ (by decide) hc.2⟩
        rw [State.roleOf, hrole, if_neg he]
        exact hc.1
    · exact .inl fun y b => hother _ _ b (by decide) (hc y b)

theorem roleOf_congr {u s : State} (h : u.bottles c = s.bottles c) : u.roleOf c = s.roleOf c := by
  simp only [State.bottles, Prod.mk.injEq] at h
  obtain ⟨-, ha, hb⟩ := h
  funext y
  cases y <;> simp only [State.roleOf, ha, hb]

theorem leaveFeeding_bottles (s : State) {b c : ChannelId} (h : b ≠ c) (y : Side) :
    (s.leaveFeeding (tankOf c y)).bottles b = s.bottles b := by
  unfold State.leaveFeeding
  split
  · rw [writeBackIfNeeded_bottles _ h, setTank_bottles s h]
  · rfl

theorem abandonSwitch_bottles (s : State) {b c : ChannelId} (h : b ≠ c) :
    (s.abandonSwitch c).bottles b = s.bottles b := by
  unfold State.abandonSwitch
  split
  · dsimp only
    rw [switchTest_bottles _ h, raise_bottles, leaveFeeding_bottles _ h, setChannel_bottles s h]
  · rfl

theorem targetExpired_bottles (s before : State) (date : Nat) {b c : ChannelId} (h : b ≠ c) :
    (s.targetExpired before date c).bottles b = s.bottles b := by
  unfold State.targetExpired
  split
  · split
    · exact abandonSwitch_bottles s h
    · rfl
  · rfl

/-- R73, R84: a channel whose target the date rejected is put right. -/
theorem targetExpired_inkLawfulBut {p : ChannelId → Prop} {before : State} {date : Nat}
    (h : s.inkLawfulBut fun b => p b ∨ b = c) (hc : s.feedLaw c ∨ s.overdue before date c) :
    (s.targetExpired before date c).inkLawfulBut p := by
  rcases hc with hc | ⟨y, n, hf, he, hy⟩
  · have hclosed := inkLawfulBut_close h hc
    unfold State.targetExpired
    split
    · rename_i y n hf
      rw [State.feedLaw, hf] at hc
      split
      · refine abandonSwitch_inkLawfulBut h hf fun b => ?_
        rw [hc.1]
        simp
      · exact hclosed
    · exact hclosed
  · simp only [State.targetExpired, hf, he]
    exact abandonSwitch_inkLawfulBut h hf hy

theorem targetsExpired_inkLawful {before : State} {date : Nat} (cs : List ChannelId) (hn : cs.Nodup)
    (h : s.inkLawfulBut (· ∈ cs)) (hc : ∀ c ∈ cs, s.feedLaw c ∨ s.overdue before date c) :
    (cs.foldl (fun s c => s.targetExpired before date c) s).inkLawful := by
  induction cs generalizing s with
  | nil => exact inkLawfulBut_mono h fun _ hb => nomatch hb
  | cons c cs ih =>
    obtain ⟨hcs, hn⟩ := List.nodup_cons.mp hn
    refine ih hn (targetExpired_inkLawfulBut (inkLawfulBut_mono h fun b hb => ?_) (hc c (by simp))) fun b hb => ?_
    · exact (List.mem_cons.mp hb).symm
    · have hbot := targetExpired_bottles s before date (b := b) (c := c) fun e => hcs (e ▸ hb)
      have hch : (s.targetExpired before date c).channel b = s.channel b := bottles_channel hbot
      rw [State.feedLaw, State.overdue, hch, roleOf_congr hbot]
      exact hc b (by simp [hb])

theorem flagAll_steady (s : State) (date : Nat) : s.steady (s.flagAll date) :=
  List.foldlRecOn (motive := fun u => s.steady u) _ _ (steady_refl s) fun u hu x _ =>
    steady_trans hu (flagExpired_steady u date x)

/-- R84: the flags first, then the rejections, then the switchovers to a rejected slot (log entry 19). -/
theorem expire_eq (s : State) (date : Nat) : s.expire date =
    (List.finRange 12).foldl (fun u c => u.targetExpired (s.flagAll date) date c) ((s.flagAll date).rejectAll date) := by
  unfold State.expire State.rejectAll State.flagAll
  dsimp only

/-- While every channel is still to be put right only R96 binds. -/
theorem readLaws_inkLawfulBut (h : ∀ x, s.readLaw x) : s.inkLawfulBut (· ∈ List.finRange 12) :=
  ⟨fun c hc => absurd (List.mem_finRange c) hc, h⟩

theorem expire_inkLawful (h : s.inkLawful) (date : Nat) : (s.expire date).inkLawful := by
  obtain ⟨hread, hfeed⟩ := rejectAll_laws (steady_inkLawful (flagAll_steady s date) h) date
  rw [expire_eq]
  exact targetsExpired_inkLawful _ (List.nodup_finRange 12) (readLaws_inkLawfulBut hread) fun c _ => hfeed c

end

end Sys2Proof.Machine
end

section
/-! PROOF. One FEEDING slot to a channel, and READs at READING slots (R79 law 2, R96): what the events share keeps
them. -/

namespace Sys2Proof.Machine

open Sys2Proof

/-! ## The bus stays where the engine, the cutter and the sensor work -/

@[simp] theorem handRead_tags (s : State) (t : TicketId) : (s.handRead t).tags = s.tags := by
  unfold State.handRead
  dsimp only
  (repeat' split) <;> simp

@[simp] theorem handAction_tags (s : State) (a : StopAction) : (s.handAction a).tags = s.tags := by
  unfold State.handAction
  split <;> simp

@[simp] theorem handAll_tags (s : State) (as : List StopAction) : (s.handAll as).tags = s.tags :=
  foldl_keeps (fun s : State => s.tags) _ handAction_tags _ _

@[simp] theorem reachStop_tags (s : State) : s.reachStop.tags = s.tags := by
  unfold State.reachStop
  split
  · rfl
  · split <;> simp

@[simp] theorem takeFed_tags (s : State) (served : Option TicketId) (f : Nat) : (s.takeFed served f).tags = s.tags := by
  unfold State.takeFed
  split <;> simp

@[simp] theorem settleEnds_tags (s : State) : s.settleEnds.tags = s.tags := by
  unfold State.settleEnds
  dsimp only
  (repeat' split) <;> simp

/-! ## The laws kept from one state to another -/

/-- Both laws hold of `t` where they hold of `s`. -/
def State.keepsInk (s t : State) : Prop := s.inkLawful → t.inkLawful

namespace State.keepsInk

variable {s t u : State}

theorem refl (s : State) : s.keepsInk s := id

theorem trans (h : s.keepsInk u) (h' : u.keepsInk t) : s.keepsInk t := h' ∘ h

/-- An operation that leaves the ink supply and the bus. -/
theorem of_same (h : t.supply = s.supply ∧ t.tags = s.tags) : s.keepsInk t := fun hs => inkLawful_of_same hs h

theorem of_steady (h : s.steady t) : s.keepsInk t := steady_inkLawful h

/-- The end of an event, over what the event did. -/
theorem settle (h : s.keepsInk u) (before : State) : s.keepsInk (u.settle before) := fun hs =>
  serveTags_inkLawful (inkLawful_of_same (h hs) (by simp))

theorem settled (h : s.keepsInk u) (before : State) (body : ReplyBody) : s.keepsInk (Machine.settled u before body).1 :=
  h.settle before

end State.keepsInk

/-! ## Stops -/

theorem stopNow_keepsInk (s : State) (halt : HaltCause) (cause : SpoilCause) : s.keepsInk (s.stopNow halt cause) := by
  unfold State.stopNow
  split
  · exact .refl s
  · exact .trans (u := ((((s.haltRun halt).abortEngine).stopTickets cause).stopPath).stopUnits) (.of_same (by simp))
      (.of_steady (writeBackFeeding_steady _))

theorem protocolError_keepsInk (s : State) : s.keepsInk s.protocolError := by
  unfold State.protocolError
  split
  · exact .refl s
  · exact .trans (u := s.withRun { s.run with protocolError := true }) (.of_same (by simp)) (stopNow_keepsInk _ _ _)

/-! ## The engine's reports -/

theorem takeFed_keepsInk (s : State) (served : Option TicketId) (f : Nat) : s.keepsInk (s.takeFed served f) :=
  .of_same (by simp)

theorem takeSwath_keepsInk (s : State) (t : TicketId) (f : Nat) (counts : Vector DropCounts 12) :
    s.keepsInk (s.takeSwath t f counts) := by
  have hm : s.keepsInk (s.atSwath t) := .of_same (by simp [State.atSwath])
  have hc : s.keepsInk ((s.atSwath t).meterSwath t counts) := hm.trans fun h => meterSwath_inkLawful h t counts
  rw [takeSwath_eq]
  exact hc.trans (.of_same (by simp))

/-- R135: a position slip, where there is one. -/
theorem slipIf_keepsInk {s u : State} (h : s.keepsInk u) (c : Bool) : s.keepsInk (if c then u.slip else u) := by
  cases c
  · exact h
  · exact h.trans (stopNow_keepsInk _ _ _)

theorem swathReported_keepsInk (s : State) (t : TicketId) (a : Nat) (aborted : Bool) (f : Nat)
    (counts : Vector DropCounts 12) : s.keepsInk (s.swathReported t a aborted f counts) := by
  have ht : s.keepsInk (if aborted then s.takeSwath t f counts else (s.takeSwath t f counts).owedAfterSwath t a f) := by
    split
    · exact takeSwath_keepsInk s t f counts
    · exact (takeSwath_keepsInk s t f counts).trans (.of_same (by simp))
  exact slipIf_keepsInk ht _

theorem feedReported_keepsInk (s : State) (asked : Nat) (p : FeedPurpose) (aborted : Bool) (f : Nat) :
    s.keepsInk (s.feedReported asked p aborted f) := by
  have hp : s.keepsInk (match p with
      | .owed _ => s.endOp.withEngine (s.endOp.engine.payOwed aborted f)
      | .eject => s.endOp) := by
    cases p <;> exact .of_same (by simp)
  exact slipIf_keepsInk (hp.trans (takeFed_keepsInk _ (s.engine.servedBy aborted p) f)) _

theorem purgeReported_keepsInk (s : State) (set : ChannelSet) (aborted : Bool) (volumes : Vector Nat 12) :
    s.keepsInk (s.purgeReported set aborted volumes) := by
  have hend : s.keepsInk s.endOp.emptySlot := .of_same (by simp)
  have hcharge : s.keepsInk (s.endOp.emptySlot.chargePurge volumes) := hend.trans fun h => chargePurge_inkLawful h volumes
  exact hcharge.trans (.of_same (by simp [State.purgeReported]))

theorem engineRestarted_keepsInk (s : State) : s.keepsInk s.engineRestarted :=
  .trans (u := s.loseOp.withEngine { s.loseOp.engine with request := none, owed := none }) (.of_same (by simp))
    (stopNow_keepsInk _ _ _)

theorem engineStarted_keepsInk (s : State) : s.keepsInk s.engineStarted :=
  .trans (u := s.enterRun .capped) (.of_same (by simp)) (.of_steady (writeBackFeeding_steady _))

/-! ## The roll lines -/

theorem endActive_keepsInk (s : State) (r : RollId) (x : Roll) : s.keepsInk (s.endActive r x) :=
  .trans (u := ((s.setRoll r (some x.ended)).raise .rollEnd).endEject) (.of_same (by simp)) (stopNow_keepsInk _ _ _)

theorem tailRose_keepsInk (s : State) (r : RollId) : s.keepsInk (s.tailRose r) := by
  unfold State.tailRose
  split
  · exact .refl s
  · split
    · exact endActive_keepsInk s r _
    · exact .of_same (by simp)
    · exact .refl s

theorem mediaFell_keepsInk (s : State) (r : RollId) : s.keepsInk (s.mediaFell r) := by
  unfold State.mediaFell
  split
  · exact .refl s
  · split
    · exact endActive_keepsInk s r _
    · exact .refl s

/-! ## The run -/

theorem enterCapped_keepsInk (s : State) : s.keepsInk s.enterCapped :=
  .trans (u := s.withRun ((s.run.settleHeads .cap).enter .capped)) (.of_same (by simp))
    (.of_steady (writeBackFeeding_steady _))

theorem leaveHalt_keepsInk (s : State) : s.keepsInk s.leaveHalt := by
  unfold State.leaveHalt
  split
  · exact .of_same (by simp)
  · exact engineStarted_keepsInk s
  · exact .of_same (by simp)

/-! ## The request frame, its answer and its timers -/

/-- R88: the end of the request frame leaves the transaction on the bus. -/
theorem requestSentEvent_keepsInk (s : State) : s.keepsInk (requestSentEvent s) := by
  unfold requestSentEvent
  split
  · rename_i tx hp
    refine .of_steady (phase_steady rfl fun x hx => ?_)
    rw [reads_turnaround] at hx
    rwa [hp, reads_request]
  · exact .refl s

theorem tagAnswerEvent_keepsInk (frame : List Byte) (s : State) : s.keepsInk (tagAnswerEvent frame s) := by
  unfold tagAnswerEvent
  split
  · rename_i tx n hp
    exact .settle (fun h => answered_inkLawful h hp frame) s
  · exact .refl s

theorem turnaroundExpired_keepsInk (begun : Bool) (s : State) : s.keepsInk (turnaroundExpired begun s) := by
  unfold turnaroundExpired
  split
  · rename_i tx n hp
    exact .settle (fun h => missed_inkLawful h hp _) s
  · exact .refl s

theorem guardExpired_keepsInk (s : State) : s.keepsInk (guardExpired s) := by
  unfold guardExpired
  split
  · exact .settle (fun h => freeBus_inkLawful h) s
  · exact .refl s

/-! ## Tanks and channels -/

theorem switchExpired_keepsInk (c : ChannelId) (s : State) : s.keepsInk (switchExpired c s) := by
  unfold switchExpired
  split
  · exact .settle (fun h => completeSwitch_inkLawful h ‹_›) s
  · exact .refl s

theorem presenceRose_keepsInk (t : TankId) (s : State) : s.keepsInk (presenceRose t s) :=
  .settle (fun h => seatTank_inkLawful (setPresence_inkLawful h t true) t) s

theorem presenceFell_keepsInk (t : TankId) (s : State) : s.keepsInk (presenceFell t s) :=
  .settle (fun h => removeTank_inkLawful (setPresence_inkLawful h t false) t) s

/-- R82: what a release refuses leaves a slot that may leave service. -/
theorem reqTankRelease_keepsInk (slot : Nat) (s : State) : s.keepsInk (reqTankRelease slot s).1 := by
  unfold reqTankRelease
  split
  · exact .refl s
  · split
    · exact .refl s
    · split
      · exact .refl s
      · split
        · exact .refl s
        · exact .settled (fun h => release_inkLawful h (by simp_all) (by simp_all)) _ _

/-- R83: a slot that may be read again is REJECTED or RELEASED. -/
theorem reread_spare {s : State} (h : s.inkLawful) {x : TankId} {m : Option Nat} (hm : (s.tank x).reread = some m) :
    s.spare x ∧ (s.tank x).role ≠ .reading := by
  have hrole : (∀ b, (s.tank x).role ≠ .held .feeding b) ∧ (∀ b, (s.tank x).role ≠ .held .standby b) ∧
      (s.tank x).role ≠ .reading := by
    unfold TankSlot.reread at hm
    split at hm
    · simp [*]
    · simp [*]
    · simp [*]
    · simp [*]
    · cases hm
  obtain ⟨hf, hs, hr⟩ := hrole
  exact ⟨spare_of_role (inkLawful_feed h _) (hf false) (hs false), hr⟩

theorem reqTankReread_keepsInk (slot : Nat) (s : State) : s.keepsInk (reqTankReread slot s).1 := by
  unfold reqTankReread
  split
  · exact .refl s
  · split
    · exact .refl s
    · rename_i x _ m hm
      refine .settled (fun h => ?_) _ _
      obtain ⟨hx, hr⟩ := reread_spare h hm
      exact readAgain_inkLawful h hx hr m

theorem reqChannelSet_keepsInk (channel floor level : Nat) (s : State) :
    s.keepsInk (reqChannelSet channel floor level s).1 := by
  unfold reqChannelSet
  split
  · exact .refl s
  · split
    · exact .refl s
    · rename_i c _ _
      have hset : s.keepsInk ((s.setChannel c { s.channel c with floor := floor, level := level }).raiseIf
          (s.floorCrossed c floor) .channelReserve) :=
        .trans (.of_steady (setChannel_steady c (x := { s.channel c with floor := floor, level := level }) rfl))
          (.of_same (by simp))
      exact .settled (hset.trans fun h => switchTest_inkLawful h c) _ _

theorem reqDateSet_keepsInk (day : Nat) (s : State) : s.keepsInk (reqDateSet day s).1 :=
  .settled (fun h => expire_inkLawful (s := s.withDate day) (inkLawful_of_same h (by simp)) day) _ _

end Sys2Proof.Machine
end

section
/-! PROOF. One FEEDING slot to a channel, and READs at READING slots (R79 law 2, R96): the requests. -/

namespace Sys2Proof.Machine

open Sys2Proof

/-- R197: a refusal changes nothing. -/
theorem refused_keepsInk (st : Status) (s : State) : s.keepsInk (refuse st s).1 := .refl s

/-! ## Requests on editions and tickets -/

theorem reqEditionCreate_keepsInk (slot : Nat) (p : EditionParams) (s : State) :
    s.keepsInk (reqEditionCreate slot p s).1 := by
  unfold reqEditionCreate
  (repeat' split) <;> try with_reducible exact refused_keepsInk _ s
  exact .of_same (by simp)

theorem reqEditionSet_keepsInk (slot : Nat) (g : BitVec 16) (p : EditionParams) (s : State) :
    s.keepsInk (reqEditionSet slot g p s).1 := by
  unfold reqEditionSet
  dsimp only
  (repeat' split) <;> try with_reducible exact refused_keepsInk _ s
  all_goals exact .of_same (by simp)

theorem reqEditionHold_keepsInk (slot : Nat) (s : State) : s.keepsInk (reqEditionHold slot s).1 := by
  unfold reqEditionHold
  (repeat' split) <;> try with_reducible exact refused_keepsInk _ s
  exact .settled (.of_same (by simp)) _ _

theorem reqEditionRelease_keepsInk (slot : Nat) (s : State) : s.keepsInk (reqEditionRelease slot s).1 := by
  unfold reqEditionRelease
  dsimp only
  (repeat' split) <;> try with_reducible exact refused_keepsInk _ s
  all_goals exact .settled (.of_same (by simp)) _ _

theorem reqEditionClose_keepsInk (slot : Nat) (s : State) : s.keepsInk (reqEditionClose slot s).1 := by
  unfold reqEditionClose
  (repeat' split) <;> try with_reducible exact refused_keepsInk _ s
  exact .settled (.of_same (by simp)) _ _

theorem reqEditionRetire_keepsInk (slot : Nat) (s : State) : s.keepsInk (reqEditionRetire slot s).1 := by
  unfold reqEditionRetire
  (repeat' split) <;> try with_reducible exact refused_keepsInk _ s
  exact .of_same (by simp)

theorem reqEditionRestore_keepsInk (slot : Nat) (r : RestoreRecord) (s : State) :
    s.keepsInk (reqEditionRestore slot r s).1 := by
  unfold reqEditionRestore
  dsimp only
  (repeat' split) <;> try with_reducible exact refused_keepsInk _ s
  all_goals exact .of_same (by simp)

theorem reqPrintAdmit_keepsInk (slot lm li lt : Nat) (s : State) : s.keepsInk (reqPrintAdmit slot lm li lt s).1 := by
  unfold reqPrintAdmit
  split
  · exact .refl s
  · exact .settled (.of_same (by simp)) _ _

theorem reqTicketCancel_keepsInk (id : Nat) (s : State) : s.keepsInk (reqTicketCancel id s).1 := by
  unfold reqTicketCancel
  (repeat' split) <;> try with_reducible exact refused_keepsInk _ s
  all_goals exact .settled (.of_same (by simp)) _ _

theorem reqTicketCollect_keepsInk (id : Nat) (s : State) : s.keepsInk (reqTicketCollect id s).1 := by
  unfold reqTicketCollect
  (repeat' split) <;> try with_reducible exact refused_keepsInk _ s
  exact .of_same (by simp)

theorem reqDropVolumesSet_keepsInk (channel a b d : Nat) (s : State) :
    s.keepsInk (reqDropVolumesSet channel a b d s).1 := by
  unfold reqDropVolumesSet
  split
  · exact .refl s
  · exact .of_same (by simp)

/-! ## Requests on rolls, the path and the cutter -/

theorem reqRollLoad_keepsInk (roll m w n p : Nat) (s : State) : s.keepsInk (reqRollLoad roll m w n p s).1 := by
  unfold reqRollLoad
  (repeat' split) <;> try with_reducible exact refused_keepsInk _ s
  exact .settled (.of_same (by simp)) _ _

theorem reqRollSet_keepsInk (roll : Nat) (g : BitVec 8) (p t : Nat) (s : State) :
    s.keepsInk (reqRollSet roll g p t s).1 := by
  unfold reqRollSet
  (repeat' split) <;> try with_reducible exact refused_keepsInk _ s
  exact .of_same (by simp)

theorem reqRollSelect_keepsInk (roll : Nat) (s : State) : s.keepsInk (reqRollSelect roll s).1 := by
  unfold reqRollSelect
  (repeat' split) <;> try with_reducible exact refused_keepsInk _ s
  exact .settled (.of_same (by simp)) _ _

theorem reqRollUnload_keepsInk (roll : Nat) (s : State) : s.keepsInk (reqRollUnload roll s).1 := by
  unfold reqRollUnload
  (repeat' split) <;> try with_reducible exact refused_keepsInk _ s
  exact .settled (.of_same (by simp)) _ _

theorem reqEject_keepsInk (s : State) : s.keepsInk (reqEject s).1 := by
  unfold reqEject
  (repeat' split) <;> try with_reducible exact refused_keepsInk _ s
  exact .settled (.of_same (by simp)) _ _

theorem reqCutterClearMade_keepsInk (s : State) : s.keepsInk (reqCutterClearMade s).1 := by
  unfold reqCutterClearMade
  split
  · exact .settled (.of_same (by simp)) _ _
  · exact .refl s

theorem reqCutterClearRetry_keepsInk (s : State) : s.keepsInk (reqCutterClearRetry s).1 := by
  unfold reqCutterClearRetry
  split
  · exact .settled (.of_same (by simp)) _ _
  · exact .refl s

theorem reqBladeFit_keepsInk (life : Nat) (s : State) : s.keepsInk (reqBladeFit life s).1 := by
  unfold reqBladeFit
  (repeat' split) <;> try with_reducible exact refused_keepsInk _ s
  exact .settled (.of_same (by simp)) _ _

/-! ## Requests on the colour check unit -/

theorem reqRefsetLoad_keepsInk (set count : Nat) (ts : List Lab) (s : State) :
    s.keepsInk (reqRefsetLoad set count ts s).1 := by
  unfold reqRefsetLoad
  (repeat' split) <;> try with_reducible exact refused_keepsInk _ s
  exact .of_same (by simp)

theorem reqRefsetClear_keepsInk (set : Nat) (s : State) : s.keepsInk (reqRefsetClear set s).1 := by
  unfold reqRefsetClear
  (repeat' split) <;> try with_reducible exact refused_keepsInk _ s
  exact .of_same (by simp)

theorem reqSensorReset_keepsInk (s : State) : s.keepsInk (reqSensorReset s).1 := by
  unfold reqSensorReset
  split
  · exact .refl s
  · exact .of_same (by simp)

/-! ## Requests on the run and the notices -/

theorem reqPurgeVolumesSet_keepsInk (level : Nat) (v : Vector Nat 12) (s : State) :
    s.keepsInk (reqPurgeVolumesSet level v s).1 := by
  unfold reqPurgeVolumesSet
  dsimp only
  split <;> exact .of_same (by simp)

theorem reqPurge_keepsInk (channels : BitVec 16) (level : Nat) (s : State) :
    s.keepsInk (reqPurge channels level s).1 := by
  unfold reqPurge
  (repeat' split) <;> try with_reducible exact refused_keepsInk _ s
  exact .settled (.of_same (by simp)) _ _

theorem reqStopDrain_keepsInk (s : State) : s.keepsInk (reqStopDrain s).1 := by
  unfold reqStopDrain
  split <;> try with_reducible exact refused_keepsInk _ s
  · exact .settled (.of_same (by simp)) _ _
  · exact .of_same (by simp)
  all_goals exact .refl s

theorem reqStopNow_keepsInk (s : State) : s.keepsInk (reqStopNow s).1 := by
  unfold reqStopNow
  split
  · exact .refl s
  · exact .settled (stopNow_keepsInk s _ _) _ _

theorem clearPath_keepsInk (s : State) : s.keepsInk s.clearPath := .of_same ⟨rfl, rfl⟩

theorem reqResume_keepsInk (cleared : Bool) (s : State) : s.keepsInk (reqResume cleared s).1 := by
  unfold reqResume
  (repeat' split) <;> try with_reducible exact refused_keepsInk _ s
  · exact .settled ((clearPath_keepsInk s).trans (leaveHalt_keepsInk _)) _ _
  all_goals exact .settled (.of_same (by simp)) _ _

theorem reqNoticeClear_keepsInk (kinds : BitVec 24) (s : State) : s.keepsInk (reqNoticeClear kinds s).1 := by
  unfold reqNoticeClear
  dsimp only
  split <;> exact .of_same (by simp)

theorem reqLinkSet_keepsInk (limit : Option Nat) (s : State) : s.keepsInk (reqLinkSet limit s).1 := by
  cases limit <;> exact .of_same (by simp [reqLinkSet])

/-- R190: whichever block a request goes to, it keeps the laws of the ink. -/
theorem handle_keepsInk (r : Request) (s : State) : s.keepsInk (handle r s).1 := by
  cases r with
  | editionCreate => exact reqEditionCreate_keepsInk _ _ s
  | editionSet => exact reqEditionSet_keepsInk _ _ _ s
  | editionHold => exact reqEditionHold_keepsInk _ s
  | editionRelease => exact reqEditionRelease_keepsInk _ s
  | editionClose => exact reqEditionClose_keepsInk _ s
  | editionRetire => exact reqEditionRetire_keepsInk _ s
  | editionRestore => exact reqEditionRestore_keepsInk _ _ s
  | printAdmit => exact reqPrintAdmit_keepsInk _ _ _ _ s
  | ticketCancel => exact reqTicketCancel_keepsInk _ s
  | ticketCollect => exact reqTicketCollect_keepsInk _ s
  | dropVolumesSet => exact reqDropVolumesSet_keepsInk _ _ _ _ s
  | tankRelease => exact reqTankRelease_keepsInk _ s
  | tankReread => exact reqTankReread_keepsInk _ s
  | channelSet => exact reqChannelSet_keepsInk _ _ _ s
  | rollLoad => exact reqRollLoad_keepsInk _ _ _ _ _ s
  | rollSet => exact reqRollSet_keepsInk _ _ _ _ s
  | rollSelect => exact reqRollSelect_keepsInk _ s
  | rollUnload => exact reqRollUnload_keepsInk _ s
  | eject => exact reqEject_keepsInk s
  | cutterClearMade => exact reqCutterClearMade_keepsInk s
  | cutterClearRetry => exact reqCutterClearRetry_keepsInk s
  | bladeFit => exact reqBladeFit_keepsInk _ s
  | refsetLoad => exact reqRefsetLoad_keepsInk _ _ _ s
  | refsetClear => exact reqRefsetClear_keepsInk _ s
  | sensorReset => exact reqSensorReset_keepsInk s
  | purgeVolumesSet => exact reqPurgeVolumesSet_keepsInk _ _ s
  | purge => exact reqPurge_keepsInk _ _ s
  | stopDrain => exact reqStopDrain_keepsInk s
  | stopNow => exact reqStopNow_keepsInk s
  | resume => exact reqResume_keepsInk _ s
  | noticeClear => exact reqNoticeClear_keepsInk _ s
  | dateSet => exact reqDateSet_keepsInk _ s
  | linkSet => exact reqLinkSet_keepsInk _ s
  | ejectDelaySet => exact .settled (.of_same (by simp)) _ _
  | editionGet | editionFind | ticketGet | tankGet | channelGet | rollGet | refsetGet =>
    simp only [handle, reqEditionGet, reqEditionFind, reqTicketGet, reqTankGet, reqChannelGet, reqRollGet, reqRefsetGet]
    split <;> exact .refl s
  | _ => exact .of_same ⟨rfl, rfl⟩

end Sys2Proof.Machine
end

section
/-! PROOF. One FEEDING slot to a channel, and READs at READING slots (R79 law 2, R96): the events and the step. -/

namespace Sys2Proof.Machine

open Sys2Proof

/-! ## The command link -/

theorem begin_keepsInk (s : State) : s.keepsInk s.begin := .of_same (by simp)

theorem executeRequest_keepsInk (tag : Nat) (r : Request) (s : State) : s.keepsInk (executeRequest tag r s) := by
  obtain ⟨⟨-, hsame⟩, -, -⟩ := answerWith_answers (handle r (s.reload .byRequest)).1 tag s.link.limit
    (handle r (s.reload .byRequest)).2.status (handle r (s.reload .byRequest)).2.body
  refine .trans (u := s.reload .byRequest) (.of_same (by simp)) ((handle_keepsInk r _).trans (.of_same ?_))
  exact ⟨hsame .supply (by decide), hsame .tags (by decide)⟩

theorem runFrames_keepsInk (n : Nat) (s : State) : s.keepsInk (runFrames n s) := by
  induction n generalizing s with
  | zero => exact .refl s
  | succ n ih =>
    unfold runFrames
    split
    · exact .refl s
    · rename_i f fs hc
      split
      · exact .trans (u := s.withLink { s.link with command := fs }) (.of_same (by simp))
          ((executeRequest_keepsInk _ _ _).trans (ih _))
      · exact .refl s

theorem discardFrame_keepsInk (s : State) (e : LinkError) : s.keepsInk (s.discardFrame e) :=
  .of_same (by simp [State.discardFrame])

theorem acceptFrame_keepsInk (s : State) (f : QueuedFrame) : s.keepsInk (s.acceptFrame f) :=
  .trans (u := s.withLink { s.link with command := s.link.command ++ [f] }) (.of_same (by simp))
    (runFrames_keepsInk _ _)

theorem deliver_keepsInk (tag : Nat) (r : Request) (s : State) : s.keepsInk (deliver tag r s) := by
  refine (begin_keepsInk s).trans ?_
  unfold deliver
  dsimp only
  split
  · exact acceptFrame_keepsInk _ _
  · exact discardFrame_keepsInk _ _

theorem selectRise_keepsInk (s : State) : s.keepsInk (selectRise s) := by
  refine (begin_keepsInk s).trans ?_
  unfold selectRise
  dsimp only
  split
  · exact .refl _
  · refine .trans (u := s.begin.withLink { s.begin.link with receipt := none }) (.of_same (by simp)) ?_
    split
    · exact .refl _
    · split
      · exact discardFrame_keepsInk _ _
      · exact acceptFrame_keepsInk _ _

theorem placeReplyFrame_keepsInk (s : State) : s.keepsInk (placeReplyFrame s) :=
  .trans (u := s.begin.place) (.of_same (by simp)) (runFrames_keepsInk _ _)

theorem clockByte_keepsInk (b : Byte) (s : State) : s.keepsInk (clockByte b s) := by
  refine .trans (.of_same ?_) (runFrames_keepsInk _ _)
  simp

/-! ## Reset -/

/-- R186: with no tank seated nothing feeds, and nothing is read. -/
theorem blank_inkLawful (s : State) : s.blank.inkLawful := by
  refine ⟨fun c _ => ?_, fun x => ?_⟩
  · have hc : s.blank.channel c = Channel.reset := Vector.getElem_replicate _
    rw [State.feedLaw, hc]
    intro y b
    rw [State.roleOf, blank_tank]
    exact nofun
  · refine ⟨fun h => ?_, fun h => absurd h (not_reads_idle x)⟩
    have hw : s.blank.tags.waiting[x] = none := Vector.getElem_replicate _
    rw [hw] at h
    cases h

theorem resetPart_keepsInk (s : State) : s.keepsInk (resetPart s) := fun _ => by
  have hseated : resetPart s = s.blank.seatPresent.serveTags := rfl
  rw [hseated]
  exact serveTags_inkLawful (seatPresent_inkLawful (blank_inkLawful s))

/-! ## The engine's messages and timer -/

theorem protocolError_settle_keepsInk (s : State) : s.keepsInk (s.protocolError.settle s) :=
  (protocolError_keepsInk s).settle s

theorem engineReadied_keepsInk (s : State) : s.keepsInk (engineReadied s) := by
  unfold engineReadied
  split
  · exact (engineStarted_keepsInk s).settle s
  · exact (engineRestarted_keepsInk s).settle s

theorem swathRequested_keepsInk (t step : Nat) (s : State) : s.keepsInk (swathRequested t step s) := by
  unfold swathRequested
  (repeat' split) <;> try exact protocolError_settle_keepsInk s
  · exact .of_same (by simp)
  · exact .settle (.of_same (by simp)) s

theorem swathDone_keepsInk (t f : Nat) (counts : Vector DropCounts 12) (s : State) :
    s.keepsInk (swathDone t f counts s) := by
  unfold swathDone
  split
  · split
    · exact (swathReported_keepsInk s _ _ _ _ _).settle s
    · exact protocolError_settle_keepsInk s
  · exact protocolError_settle_keepsInk s

theorem feedDone_keepsInk (f : Nat) (s : State) : s.keepsInk (feedDone f s) := by
  unfold feedDone
  split
  · exact (feedReported_keepsInk s _ _ _ _).settle s
  · exact protocolError_settle_keepsInk s

theorem purgeDone_keepsInk (v : Vector Nat 12) (s : State) : s.keepsInk (purgeDone v s) := by
  unfold purgeDone
  split
  · exact (purgeReported_keepsInk s _ _ _).settle s
  · exact protocolError_settle_keepsInk s

theorem parkDone_keepsInk (s : State) : s.keepsInk (parkDone s) := by
  unfold parkDone
  split
  · exact .settle (.of_same (by simp)) s
  · exact protocolError_settle_keepsInk s

theorem capDone_keepsInk (s : State) : s.keepsInk (capDone s) := by
  unfold capDone
  split
  · exact .settle (.of_same (by simp)) s
  · exact protocolError_settle_keepsInk s

theorem uncapDone_keepsInk (s : State) : s.keepsInk (uncapDone s) := by
  unfold uncapDone
  split
  · exact .settle (.of_same (by simp)) s
  · exact protocolError_settle_keepsInk s

theorem engineFaulted_keepsInk (code : Nat) (s : State) : s.keepsInk (engineFaulted code s) :=
  .settle (.trans (u := (s.withEngine { s.engine with lastFault := some code }).raise .engineFault)
    (.of_same (by simp)) (stopNow_keepsInk _ _ _)) s

theorem swathTimerExpired_keepsInk (s : State) : s.keepsInk (swathTimerExpired s) := by
  unfold swathTimerExpired
  split
  · split
    · exact .settle (.of_same (by simp)) s
    · exact .settle (.trans (u := s.raise .engineFault) (.of_same (by simp)) (stopNow_keepsInk _ _ _)) s
  · exact .refl s

/-! ## Tickets, the roll lines, the eject and the cutter -/

theorem pauseExpired_keepsInk (t : TicketId) (s : State) : s.keepsInk (pauseExpired t s) := by
  unfold pauseExpired
  split
  · exact .refl s
  · split
    · exact .settle (.of_same (by simp)) s
    · exact .refl s

theorem setRollEnd_keepsInk (s : State) (r : RollId) (level : Bool) : s.keepsInk (s.setRollEnd r level) :=
  .of_same ⟨rfl, rfl⟩

theorem setMediaPresent_keepsInk (s : State) (r : RollId) (level : Bool) : s.keepsInk (s.setMediaPresent r level) :=
  .of_same ⟨rfl, rfl⟩

theorem rollEndLineRose_keepsInk (r : RollId) (s : State) : s.keepsInk (rollEndLineRose r s) :=
  ((setRollEnd_keepsInk s r true).trans (tailRose_keepsInk _ r)).settle s

theorem mediaPresentFell_keepsInk (r : RollId) (s : State) : s.keepsInk (mediaPresentFell r s) :=
  ((setMediaPresent_keepsInk s r false).trans (mediaFell_keepsInk _ r)).settle s

theorem ejectTimerExpired_keepsInk (s : State) : s.keepsInk (ejectTimerExpired s) := by
  unfold ejectTimerExpired
  split
  · exact .refl s
  · exact .settle (.of_same (by simp)) s

theorem cutterLineRose_keepsInk (x : CarriageEnd) (s : State) : s.keepsInk (cutterLineRose x s) :=
  .settle (.of_same (by simp)) s

theorem cutTimerExpired_keepsInk (s : State) : s.keepsInk (cutTimerExpired s) := by
  unfold cutTimerExpired
  split
  · exact .settle (.of_same (by simp)) s
  · exact .refl s

/-! ## The sensor and the idle timers -/

theorem calDone_keepsInk (x : Nat) (ok : Bool) (s : State) : s.keepsInk (calDone x ok s) := by
  unfold calDone
  split
  · split <;> exact .settle (.of_same (by simp)) s
  · exact .refl s

theorem resultTaken_keepsInk (x : Nat) (row : List Lab) (s : State) : s.keepsInk (resultTaken x row s) := by
  unfold resultTaken
  split
  · exact .settle (.of_same (by simp)) s
  · exact .refl s

theorem sensorErrorTaken_keepsInk (x code : Nat) (s : State) : s.keepsInk (sensorErrorTaken x code s) := by
  unfold sensorErrorTaken
  split
  · exact .settle (.of_same (by simp)) s
  · exact .refl s

theorem sensorTimerExpired_keepsInk (s : State) : s.keepsInk (sensorTimerExpired s) := by
  unfold sensorTimerExpired
  split
  · exact .settle (.of_same (by simp)) s
  · exact .settle (.of_same (by simp)) s
  · exact .refl s

theorem settleTimerExpired_keepsInk (s : State) : s.keepsInk (settleTimerExpired s) := by
  unfold settleTimerExpired
  split
  · exact .refl s
  · exact .settle (.of_same (by simp)) s

theorem dozeTimerExpired_keepsInk (s : State) : s.keepsInk (dozeTimerExpired s) := by
  unfold dozeTimerExpired
  split
  · exact .refl s
  · exact .settle (.of_same (by simp)) s

theorem capTimerExpired_keepsInk (s : State) : s.keepsInk (capTimerExpired s) := by
  unfold capTimerExpired
  split
  · exact .refl s
  · exact .settle (enterCapped_keepsInk s) s

/-! ## The step -/

/-- An event begins with nothing sent. -/
theorem event_keepsInk {f : State → State} (h : ∀ s : State, s.keepsInk (f s)) (s : State) : s.keepsInk (f s.begin) :=
  (begin_keepsInk s).trans (h _)

/-- Whichever command is executed, the laws of the ink are kept. -/
theorem exec_keepsInk (c : Instr) (s t : State) (h : exec c s = .next t) : s.keepsInk t := by
  cases hr : requestOf c with
  | some q =>
    rw [exec_request hr] at h
    cases h
    exact deliver_keepsInk _ _ _
  | none =>
    cases c with
    | reset => exact Host.Outcome.next.inj h ▸ resetPart_keepsInk s
    | frameReceive => cases h; exact selectRise_keepsInk s
    | replyFramePlace => cases h; exact placeReplyFrame_keepsInk s
    | byteClocked b => cases h; exact clockByte_keepsInk b s
    | engineReady => cases h; exact event_keepsInk engineReadied_keepsInk s
    | swathRequest t step => cases h; exact event_keepsInk (swathRequested_keepsInk t step) s
    | swathDone t f n => cases h; exact event_keepsInk (swathDone_keepsInk t f n) s
    | feedDone f => cases h; exact event_keepsInk (feedDone_keepsInk f) s
    | purgeDone v => cases h; exact event_keepsInk (purgeDone_keepsInk v) s
    | parkDone => cases h; exact event_keepsInk parkDone_keepsInk s
    | capDone => cases h; exact event_keepsInk capDone_keepsInk s
    | uncapDone => cases h; exact event_keepsInk uncapDone_keepsInk s
    | engineFault code => cases h; exact event_keepsInk (engineFaulted_keepsInk code) s
    | engineFrameInvalid => cases h; exact event_keepsInk protocolError_settle_keepsInk s
    | swathTimerExpiry => cases h; exact event_keepsInk swathTimerExpired_keepsInk s
    | pauseExpiry t => cases h; exact event_keepsInk (pauseExpired_keepsInk t) s
    | switchTimerExpiry c => cases h; exact event_keepsInk (switchExpired_keepsInk c) s
    | presenceRise t => cases h; exact event_keepsInk (presenceRose_keepsInk t) s
    | presenceFall t => cases h; exact event_keepsInk (presenceFell_keepsInk t) s
    | requestSent => cases h; exact event_keepsInk requestSentEvent_keepsInk s
    | tagAnswer frame => cases h; exact event_keepsInk (tagAnswerEvent_keepsInk frame) s
    | turnaroundExpiry begun => cases h; exact event_keepsInk (turnaroundExpired_keepsInk begun) s
    | guardExpiry => cases h; exact event_keepsInk guardExpired_keepsInk s
    | rollEndLineRise r => cases h; exact event_keepsInk (rollEndLineRose_keepsInk r) s
    | mediaPresentFall r => cases h; exact event_keepsInk (mediaPresentFell_keepsInk r) s
    | rollEndLineFall r => cases h; exact event_keepsInk (setRollEnd_keepsInk · r false) s
    | mediaPresentRise r => cases h; exact event_keepsInk (setMediaPresent_keepsInk · r true) s
    | ejectTimerExpiry => cases h; exact event_keepsInk ejectTimerExpired_keepsInk s
    | homeLineRise => cases h; exact event_keepsInk (cutterLineRose_keepsInk .homeEnd) s
    | endLineRise => cases h; exact event_keepsInk (cutterLineRose_keepsInk .farEnd) s
    | cutTimerExpiry => cases h; exact event_keepsInk cutTimerExpired_keepsInk s
    | cutterLineFall x => cases h; exact .of_same (by simp [cutterLineFell])
    | calDone x ok => cases h; exact event_keepsInk (calDone_keepsInk x ok) s
    | result x row => cases h; exact event_keepsInk (resultTaken_keepsInk x row) s
    | sensorError x code => cases h; exact event_keepsInk (sensorErrorTaken_keepsInk x code) s
    | sensorTimerExpiry => cases h; exact event_keepsInk sensorTimerExpired_keepsInk s
    | settleTimerExpiry => cases h; exact event_keepsInk settleTimerExpired_keepsInk s
    | sensorFrameInvalid => cases h; exact begin_keepsInk s
    | dozeTimerExpiry => cases h; exact event_keepsInk dozeTimerExpired_keepsInk s
    | capTimerExpiry => cases h; exact event_keepsInk capTimerExpired_keepsInk s
    | _ => exact nomatch hr

/-- A millisecond counts the switch timers and the bus's timer down. -/
theorem countDown_steady (s : State) : s.steady s.countDown := by
  have ht : ∀ x, s.countDown.tank x = s.tank x := by simp [State.countDown, State.tank]
  have hw : s.countDown.tags.waiting = s.tags.waiting := by simp [State.countDown]
  refine ⟨fun c slot => ?_, fun x => by rw [ht], fun x => by rw [hw]; exact id, fun x => ?_⟩
  · have hc : s.countDown.channel c = (s.channel c).down := by simp [State.countDown, State.channel]
    rw [hc]
    unfold Channel.down
    split
    · rename_i y n hf
      rw [hf]
      exact id
    · exact id
  · have hp : s.countDown.tags.phase = s.tags.phase.down := by simp [State.countDown]
    rw [hp]
    unfold TagPhase.down
    split
    · rename_i tx n hf
      rw [hf, reads_turnaround, reads_turnaround]
      exact id
    · exact fun h => absurd h (not_reads_guard _ x)
    · exact id

theorem step_keepsInk (s t : State) (h : step s = .next t) : s.keepsInk t := by
  unfold step at h
  split at h
  · unfold idleStep at h
    split at h
    · exact exec_keepsInk _ s t h
    · cases h
      exact (begin_keepsInk s).trans (.of_steady (countDown_steady _))
  · exact .trans (u := s.withPending _) (.of_same (by simp)) (exec_keepsInk _ _ t h)

/-- Settles O60: both laws hold after each step that begins where they hold. -/
theorem oneSlotFeedsAChannel : Obligations.OneSlotFeedsAChannel := by
  intro s t hf hr h
  exact (inkLawful_iff t).mp (step_keepsInk s t h ((inkLawful_iff s).mpr ⟨hf, hr⟩))

end Sys2Proof.Machine
end

section
/-! PROOF. CHANNEL_SET and the switchover test (R70, R76, R85). -/

namespace Sys2Proof.Machine

open Sys2Proof

/-! ## The switchover test -/

section
variable (s : State) (c : ChannelId)

/-- R70: the test leaves the channel as it is, or starts a switchover to a slot that can take it. -/
theorem switchTest_cases : s.switchTest c = s ∨
    ∃ y, (s.tank (tankOf c y)).isCandidate = true ∧ s.switchTest c = s.startSwitch c y := by
  unfold State.switchTest
  split
  · exact .inl rfl
  · split
    · exact .inr ⟨_, ‹_›, rfl⟩
    · split
      · exact .inr ⟨_, ‹_›, rfl⟩
      · exact .inl rfl
  · split
    · exact .inl rfl
    · split
      · exact .inr ⟨_, (Bool.and_eq_true_iff.mp ‹_›).2, rfl⟩
      · exact .inl rfl

theorem switchTest_sameBut : s.sameBut [.supply] (s.switchTest c) := by
  simp [sameBut_iff]

theorem switchTest_supply : (s.switchTest c).supply.tanks = s.supply.tanks ∧
    (s.switchTest c).supply.presence = s.supply.presence := by
  rcases switchTest_cases s c with e | ⟨y, -, e⟩ <;> rw [e] <;> exact ⟨rfl, rfl⟩

/-- R70: the test moves a channel's feed and valve. -/
theorem switchTest_channel_self : (s.switchTest c).channel c =
    { s.channel c with feed := ((s.switchTest c).channel c).feed, valve := ((s.switchTest c).channel c).valve } := by
  rcases switchTest_cases s c with e | ⟨y, -, e⟩ <;> rw [e]
  simp [State.startSwitch]

theorem switchTest_channel_ne {b : ChannelId} (h : b ≠ c) : (s.switchTest c).channel b = s.channel b :=
  bottles_channel (switchTest_bottles s h)

variable {s c}

/-- R70, R71: a FED channel's switchover that is due starts. -/
theorem switchTest_starts {y : Side} {st : HeldState} {r : TankRecord} (hd : s.drawsFrom c y st r)
    (h : s.switchDue c y r) : s.switchTest c = s.startSwitch c y.other := by
  obtain ⟨hfeed, htank⟩ := hd
  simp [State.switchTest, hfeed, htank, TankSlot.record, h.1, h.2]

/-- R70: a STARVED channel with one slot that can take a switchover. -/
theorem switchTest_starved_one {y : Side} (hf : (s.channel c).feed = .starved)
    (hy : (s.tank (tankOf c y)).isCandidate = true) (ho : (s.tank (tankOf c y.other)).isCandidate = false) :
    s.switchTest c = s.startSwitch c y := by
  unfold State.switchTest
  cases y <;> simp_all [Side.other]

theorem switchTest_starved_none {y : Side} (hf : (s.channel c).feed = .starved)
    (hy : (s.tank (tankOf c y)).isCandidate = false) (ho : (s.tank (tankOf c y.other)).isCandidate = false) :
    s.switchTest c = s := by
  unfold State.switchTest
  cases y <;> simp_all [Side.other]

/-- R70: a STARVED channel with a slot that can take a switchover begins one. -/
theorem switchTest_starved_some {y : Side} (hf : (s.channel c).feed = .starved)
    (hy : (s.tank (tankOf c y)).isCandidate = true) : ∃ z, s.switchTest c = s.startSwitch c z := by
  unfold State.switchTest
  rw [hf]
  dsimp only
  split
  · exact ⟨_, rfl⟩
  · split
    · exact ⟨_, rfl⟩
    · cases y <;> contradiction

end

/-- A notice raised where it may already be pending. -/
theorem raiseIf_notices (s : State) (x : Bool) (k : Notice) : (s.raiseIf x k).notices =
    { s.notices with pending := if x then s.notices.pending ||| k.bit else s.notices.pending } := by
  cases x <;> rfl

/-! ## CHANNEL_SET -/

/-- R85: a channel with both levels replaced, and the reserve tested. -/
def State.levelled (s : State) (c : ChannelId) (floor level : Nat) : State :=
  (s.setChannel c { s.channel c with floor := floor, level := level }).raiseIf (s.floorCrossed c floor) .channelReserve

section
variable (s : State) (c : ChannelId) (floor level : Nat)

theorem handle_channelSet (h1 : 1 ≤ floor) (h2 : floor ≤ 100) (h3 : level ≤ floor) :
    handle (.channelSet c.val floor level) s =
      (((s.levelled c floor level).switchTest c).settle s, ⟨.ok, .empty⟩) := by
  have hw : within 1 100 floor = true := by simp [within, h1, h2]
  simp only [handle, reqChannelSet, asId_val, hw, Nat.not_lt.mpr h3]
  rfl

theorem handle_channelSet_range (h : floor < 1 ∨ 100 < floor ∨ floor < level) :
    handle (.channelSet c.val floor level) s = (s, ⟨.range, .empty⟩) := by
  have hw : (!within 1 100 floor || decide (floor < level)) = true := by
    simp only [within, Bool.or_eq_true, Bool.not_eq_true', Bool.and_eq_false_iff, decide_eq_true_eq,
      decide_eq_false_iff_not]
    omega
  simp only [handle, reqChannelSet, asId_val, hw]
  rfl

theorem levelled_sameBut : s.sameBut [.supply, .notices] (s.levelled c floor level) := by
  simp [sameBut_iff, State.levelled]

theorem levelled_supply : (s.levelled c floor level).supply =
    (s.setChannel c { s.channel c with floor := floor, level := level }).supply := by
  simp [State.levelled]

theorem levelled_tank (x : TankId) : (s.levelled c floor level).tank x = s.tank x := by
  simp [State.levelled]

theorem levelled_channel_self : (s.levelled c floor level).channel c =
    { s.channel c with floor := floor, level := level } := by
  simp [State.levelled]

theorem levelled_channel_ne {b : ChannelId} (h : b ≠ c) : (s.levelled c floor level).channel b = s.channel b := by
  rw [State.levelled, raiseIf_channel, setChannel_channel_ne _ _ h.symm]

theorem levelled_notices {y : Side} {st : HeldState} {r : TankRecord} (hd : s.drawsFrom c y st r) :
    (s.levelled c floor level).notices = { s.notices with pending :=
      if (s.channel c).floor * 1000000 < r.fill ∧ r.fill ≤ floor * 1000000 then s.notices.pending ||| 1#18 <<< 5
      else s.notices.pending } := by
  obtain ⟨hfeed, htank⟩ := hd
  have hc : s.floorCrossed c floor =
      (decide ((s.channel c).floor * 1000000 < r.fill) && decide (r.fill ≤ floor * 1000000)) := by
    simp only [State.floorCrossed, hfeed, htank, TankSlot.record]
    rfl
  rw [State.levelled, raiseIf_notices, hc]
  simp [Notice.bit, Notice.number]

theorem levelled_drawsFrom {y : Side} {st : HeldState} {r : TankRecord} (hd : s.drawsFrom c y st r) :
    (s.levelled c floor level).drawsFrom c y st r := by
  obtain ⟨hfeed, htank⟩ := hd
  exact ⟨by rw [levelled_channel_self, hfeed], by rw [levelled_tank, htank]⟩

/-- R70: the test after CHANNEL_SET reads the new level. -/
theorem levelled_switchDue (y : Side) (r : TankRecord) : (s.levelled c floor level).switchDue c y r ↔
    r.fill ≤ level * 1000000 ∧ ∃ r', s.tank (tankOf c y.other) = .held .standby r' ∧ r'.releasePending = false := by
  rw [State.switchDue, levelled_channel_self, levelled_tank, isCandidate_iff]
  rfl

end

/-- Settles O35: the levels are set first, and the switchover test then reads the new level. -/
theorem channelSetReplacesTheLevels : Obligations.ChannelSetReplacesTheLevels := by
  refine ⟨fun tag n floor level s h hn => exec_answers rfl h ?_,
    fun tag c floor level s h => ⟨fun hr => ?_, fun h1 h2 h3 => ?_⟩⟩
  · simp [handle, reqChannelSet, asId_out hn, refuse]
  · exact exec_answers rfl h (handle_channelSet_range _ c floor level hr)
  · obtain ⟨t, hex, hans⟩ := exec_answers (c := .channelSet tag c.val floor level) rfl h
      (handle_channelSet s.asked c floor level h1 h2 h3)
    obtain ⟨htanks, hpresence⟩ := switchTest_supply (s.asked.levelled c floor level) c
    rw [levelled_supply] at htanks hpresence
    refine ⟨t, _, hex, hans, ?_, ?_, ?_, ?_, fun b hb => ?_, ?_, fun y st r hf hx => ⟨?_, fun hl ho => ?_, fun hn => ?_⟩⟩
    · exact sameBut_weaken (sameBut_trans (levelled_sameBut _ c floor level) (switchTest_sameBut _ c)) (by decide)
    · simp [State.levelled]
    · rw [htanks]; simp [State.setChannel]
    · rw [hpresence]; simp
    · rw [switchTest_channel_ne _ _ hb, levelled_channel_ne _ _ _ _ hb, asked_channel]
    · rw [switchTest_channel_self, levelled_channel_self, asked_channel]
    all_goals
      have hd : s.asked.drawsFrom c y st r := ⟨by simpa using hf, by simpa using hx⟩
      have hdue := levelled_switchDue s.asked c floor level y r
      simp only [asked_tank] at hdue
    · simpa using levelled_notices s.asked c floor level hd
    · rw [switchTest_starts (levelled_drawsFrom _ c floor level hd) (hdue.mpr ⟨hl, ho⟩)]
      simp [State.startSwitch]
    · have hnot : ¬ (s.asked.levelled c floor level).switchDue c y r := by
        rw [hdue]
        rintro ⟨hl, r', hr', hrel⟩
        rcases hn with hn | hn
        · omega
        · simp [hn r' hr'] at hrel
      rw [switchTest_not_due (levelled_drawsFrom _ c floor level hd) hnot, levelled_channel_self]
      exact ⟨by simpa using hf, by simp⟩

end Sys2Proof.Machine
end

section
/-! PROOF. The idle timers' expiries, and the write-backs of CAPPED (R80, R174, R176). -/

namespace Sys2Proof.Machine

open Sys2Proof

/-! ## The FEEDING slots' write-backs -/

/-- What a write-back reads and writes of a slot: the slot, and its pending operation. -/
def State.slotAndOp (s : State) (x : TankId) : TankSlot × Option TagOp := (s.tank x, s.tags.waiting[x])

/-- R80: a slot and its pending operation once a FEEDING slot has been written back where it needs it. -/
def writtenBack (p : TankSlot × Option TagOp) : TankSlot × Option TagOp :=
  match p with
  | (.held .feeding r, w) =>
    if r.fill ≠ r.lastWritten || r.stale then
      (.held .feeding { r with writeMark := r.fill }, some (coalesce w (.write r.fill)))
    else p
  | _ => p

/-- R80: one slot's part of the write-backs. -/
def State.feedingBack (s : State) (t : TankId) : State :=
  match s.tank t with
  | .held .feeding _ => s.writeBackIfNeeded t
  | _ => s

theorem writeBackFeeding_eq (s : State) : s.writeBackFeeding = (List.finRange 24).foldl State.feedingBack s := by
  unfold State.writeBackFeeding State.feedingBack
  rfl

theorem writeBack_waiting_ne (s : State) {t x : TankId} (hx : t ≠ x) :
    (s.writeBack t).tags.waiting[x] = s.tags.waiting[x] := by
  unfold State.writeBack
  split
  · rfl
  · rw [queueTag_tags]
    simp [put_ne _ _ hx]

theorem writeBack_slotAndOp (s : State) {t : TankId} {st : HeldState} {r : TankRecord} (ht : s.tank t = .held st r) :
    (s.writeBack t).slotAndOp t =
      (.held st { r with writeMark := r.fill }, some (coalesce s.tags.waiting[t] (.write r.fill))) := by
  rw [State.slotAndOp, writeBack_tank ht, writeBack_held ht, queueTag_tags]
  simp

theorem writeBack_slotAndOp_ne (s : State) {t x : TankId} (hx : t ≠ x) : (s.writeBack t).slotAndOp x = s.slotAndOp x := by
  rw [State.slotAndOp, writeBack_tank_ne s hx.symm, writeBack_waiting_ne s hx, State.slotAndOp]

theorem feedingBack_slotAndOp (s : State) (t x : TankId) :
    (s.feedingBack t).slotAndOp x = if t = x then writtenBack (s.slotAndOp x) else s.slotAndOp x := by
  unfold State.feedingBack
  by_cases hx : t = x
  · subst hx
    rw [if_pos rfl]
    split
    · rename_i r hr
      have hs : s.slotAndOp t = (.held .feeding r, s.tags.waiting[t]) := by rw [State.slotAndOp, hr]
      simp only [State.writeBackIfNeeded, hr, TankSlot.record, hs, writtenBack]
      split
      · exact writeBack_slotAndOp s hr
      · exact hs
    · rename_i hn
      unfold writtenBack
      split
      · exact absurd (congrArg Prod.fst ‹_›) (hn _)
      · rfl
  · rw [if_neg hx]
    split
    · rcases writeBackIfNeeded_eq s t with e | e <;> rw [e]
      exact writeBack_slotAndOp_ne s hx
    · rfl

theorem writeBackFeeding_slotAndOp (s : State) (x : TankId) :
    s.writeBackFeeding.slotAndOp x = writtenBack (s.slotAndOp x) := by
  rw [writeBackFeeding_eq, foldl_pointwise State.slotAndOp State.feedingBack writtenBack feedingBack_slotAndOp _
    (List.nodup_finRange 24), if_pos (List.mem_finRange x)]

/-- R80: a FEEDING slot whose tag is behind is written back. -/
theorem writeBackFeeding_due {s : State} {x : TankId} {r : TankRecord} (hx : s.tank x = .held .feeding r)
    (hd : r.fill ≠ r.lastWritten ∨ r.stale = true) :
    s.writeBackFeeding.tank x = .held .feeding { r with writeMark := r.fill } ∧
      s.writeBackFeeding.tags.waiting[x] ≠ none := by
  have h := writeBackFeeding_slotAndOp s x
  have hs : s.slotAndOp x = (.held .feeding r, s.tags.waiting[x]) := by rw [State.slotAndOp, hx]
  have hdue : (decide (r.fill ≠ r.lastWritten) || r.stale) = true := by simpa using hd
  simp only [hs, writtenBack, hdue, if_true] at h
  obtain ⟨htank, hop⟩ := Prod.mk.inj h
  exact ⟨htank, by rw [hop]; simp⟩

theorem writeBack_channels (s : State) (t : TankId) : (s.writeBack t).supply.channels = s.supply.channels := by
  unfold State.writeBack
  split
  · rfl
  · simp [State.setTank]

theorem feedingBack_channels (s : State) (t : TankId) : (s.feedingBack t).supply.channels = s.supply.channels := by
  unfold State.feedingBack
  split
  · rcases writeBackIfNeeded_eq s t with e | e <;> rw [e]
    exact writeBack_channels s t
  · rfl

theorem writeBackFeeding_channels (s : State) : s.writeBackFeeding.supply.channels = s.supply.channels := by
  rw [writeBackFeeding_eq]
  exact foldl_keeps (fun s : State => s.supply.channels) _ feedingBack_channels _ s

/-! ## What the expiries withdraw -/

/-- R175: what stays of the head-care slot once an unsent operation has left it. -/
def HeadSlot.sentOnly (x : Option HeadSlot) : Option HeadSlot :=
  match x with
  | some ⟨_, false⟩ => none
  | x => x

theorem withdrawUnsent_eq (r : RunRecord) : r.withdrawUnsent = { r with slot := HeadSlot.sentOnly r.slot } := by
  rcases hs : r.slot with _ | ⟨op, _ | _⟩ <;> simp only [RunRecord.withdrawUnsent, hs, HeadSlot.sentOnly] <;> rw [← hs]

theorem settleHeads_eq (r : RunRecord) (w : Wanted) : r.settleHeads w =
    { r with slot := HeadSlot.sentOnly r.slot, manual := none, wanted := some w,
             resumeWait := r.resumeWait || decide (r.state = .paused) } := by
  rw [RunRecord.settleHeads, withdrawUnsent_eq]
  rfl

theorem exec_dozeTimerExpiry (s : State) : exec .dozeTimerExpiry s = .next (dozeTimerExpired s.begin) := rfl

theorem exec_capTimerExpiry (s : State) : exec .capTimerExpiry s = .next (capTimerExpired s.begin) := rfl

/-- R174: a timer that is stopped does not expire. -/
theorem dozeTimerExpired_eq (s : State) :
    dozeTimerExpired s = if s.run.dozeTimer = none then s else s.enterDoze.settle s := by
  unfold dozeTimerExpired
  split <;> simp [*]

theorem capTimerExpired_eq (s : State) :
    capTimerExpired s = if s.run.capTimer = none then s else s.enterCapped.settle s := by
  unfold capTimerExpired
  split <;> simp [*]

/-- R176: the run record of an entry into CAPPED. -/
theorem enterCapped_eq (s : State) : s.enterCapped = (s.withRun { s.run with
    state := .capped, dozeTimer := none, capTimer := none, manual := none, wanted := some .cap,
    slot := HeadSlot.sentOnly s.run.slot,
    resumeWait := s.run.resumeWait || decide (s.run.state = .paused) }).writeBackFeeding := by
  rw [State.enterCapped, settleHeads_eq]
  rfl

/-- Settles O54: each expiry withdraws what is unsent and wants its own operation; CAPPED writes the FEEDING tanks
back. -/
theorem idleTimersParkAndCapTheHeads : Obligations.IdleTimersParkAndCapTheHeads := by
  intro s
  have hrun : s.begin.run = s.run := rfl
  refine ⟨fun h => ?_, fun h => ?_, fun h => ?_, fun h => ?_⟩
  · rw [exec_dozeTimerExpiry, dozeTimerExpired_eq, hrun, if_pos h]
  · rw [exec_capTimerExpiry, capTimerExpired_eq, hrun, if_pos h]
  · rw [exec_dozeTimerExpiry, dozeTimerExpired_eq, hrun, if_neg h, State.enterDoze, settleHeads_eq]
    rfl
  · refine ⟨s.begin.enterCapped, by rw [exec_capTimerExpiry, capTimerExpired_eq, hrun, if_neg h], ?_⟩
    rw [enterCapped_eq]
    refine ⟨?_, by simp [State.begin], ?_, ?_, fun y r hy hd => writeBackFeeding_due hy hd⟩
    · simp [sameBut_iff]
    · rw [writeBackFeeding_channels]; rfl
    · simp only [writeBackFeeding_keeps]
      rfl

end Sys2Proof.Machine
end

section
/-! PROOF. TANK_RELEASE and TANK_REREAD (R80, R82, R83, R96). -/

namespace Sys2Proof.Machine

open Sys2Proof

/-! ## A channel that loses its feeding slot -/

/-- R78, R82: a channel that has lost its feeding slot is SWITCHING or STARVED. -/
theorem loseFeeding_feed (s : State) (c : ChannelId) (z : Side) : ((s.loseFeeding c).channel c).feed ≠ .fed z := by
  simp only [State.loseFeeding, raiseIf_channel]
  rcases switchTest_cases (s.setChannel c { s.channel c with feed := .starved }) c with e | ⟨y, -, e⟩ <;> rw [e] <;>
    simp [State.startSwitch]

@[simp] theorem loseFeeding_tank (s : State) (c : ChannelId) (x : TankId) : (s.loseFeeding c).tank x = s.tank x := by
  simp [State.loseFeeding]

/-! ## The release -/

section
variable {s : State} {x : TankId} {st : HeldState} {r : TankRecord}

/-- R96: a write is pending behind a READ only. -/
theorem coalesce_write (w : Option TagOp) (n : Nat) :
    coalesce w (.write n) = if w = some .read then .read else .write n := by
  rcases w with _ | _ | m <;> rfl

theorem releasing_tank (hx : s.tank x = .held st r) :
    (s.releasing x).tank x = .held st { r with writeMark := r.fill, releasePending := true } := by
  rw [State.releasing, setTank_tank_self, writeBack_tank hx]
  rfl

theorem releasing_tank_ne {y : TankId} (hy : y ≠ x) : (s.releasing x).tank y = s.tank y := by
  rw [State.releasing, setTank_tank_ne _ _ hy.symm, writeBack_tank_ne s hy]

theorem releasing_channels (s : State) (x : TankId) : (s.releasing x).supply.channels = s.supply.channels :=
  writeBack_channels s x

theorem releasing_tags (hx : s.tank x = .held st r) : (s.releasing x).tags = { s.tags with
    waiting := put s.tags.waiting x (some (if s.tags.waiting[x] = some .read then .read else .write r.fill)) } := by
  have hw : (s.releasing x).tags = (s.writeBack x).tags := rfl
  rw [hw, writeBack_held hx, queueTag_tags, coalesce_write]
  rfl

theorem releasing_sameBut (s : State) (x : TankId) : s.sameBut [.supply, .tags] (s.releasing x) := by
  simp [sameBut_iff, State.releasing]

theorem release_spare (hx : s.tank x = .held st r) (h : s.spare x) : s.release x = s.releasing x := by
  rw [release_eq s hx, if_neg h.1]

/-- R82: a feeding slot that is released leaves its channel. -/
theorem release_feeding (hx : s.tank x = .held st r) (h : (s.channel (channelOf x)).feed = .fed (sideOf x)) :
    (s.release x).tank x = .held r.awayState { r with writeMark := r.fill, releasePending := true } ∧
      ∀ z, ((s.release x).channel (channelOf x)).feed ≠ .fed z := by
  rw [release_eq s hx, if_pos h]
  exact ⟨by simp, loseFeeding_feed _ _⟩

/-! ## The checks of TANK_RELEASE -/

theorem not_releasable (h : ∀ st r, s.tank x = .held st r →
    (st = .rejectedKind ∨ st = .rejectedExpired ∨ st = .released) ∨ r.releasePending = true) :
    (s.tank x).releasable = false := by
  rw [Bool.eq_false_iff, ne_eq, releasable_iff]
  rintro ⟨st, r, hr, hst, hrel⟩
  rcases h st r hr with h | h
  · rcases hst with rfl | rfl | rfl | rfl <;> simp at h
  · simp [hrel] at h

theorem inSwitchover_iff (s : State) (x : TankId) : s.inSwitchover x = true ↔
    ∃ y n, (s.channel (channelOf x)).feed = .switching y n ∧ (y = sideOf x ∨ ∃ r, s.tank x = .held .feeding r) := by
  unfold State.inSwitchover
  split
  · rename_i y n hf
    have hfeeding : (match s.tank x with | .held .feeding _ => true | _ => false) = true ↔
        ∃ r, s.tank x = .held .feeding r := by
      split
      · rename_i r hr
        simp [hr]
      · rename_i hn
        exact ⟨nofun, fun ⟨r, hr⟩ => absurd hr (hn r)⟩
    rw [Bool.or_eq_true, beq_iff_eq, hf]
    refine (or_congr_right hfeeding).trans ⟨fun h => ⟨y, n, rfl, h⟩, ?_⟩
    rintro ⟨_, _, he, h⟩
    cases he
    exact h
  · rename_i hn
    exact ⟨nofun, fun ⟨y, n, hf, _⟩ => absurd hf (hn y n)⟩

theorem somePrinting_iff (s : State) :
    s.somePrinting = true ↔ ∃ z k, s.ticket z = some k ∧ k.state = .printing := by
  unfold State.somePrinting
  rw [List.any_eq_true]
  refine exists_congr fun z => ?_
  cases hz : s.ticket z <;> simp

variable (s x)

theorem handle_tankRelease_out {slot : Nat} (h : 23 < slot) :
    handle (.tankRelease slot) s = (s, ⟨.badSlot, .empty⟩) := by
  simp [handle, reqTankRelease, asId_out (show 24 ≤ slot from h), refuse]

variable {s x}

theorem handle_tankRelease_state (h : (s.tank x).releasable = false) :
    handle (.tankRelease x.val) s = (s, ⟨.badState, .empty⟩) := by
  simp [handle, reqTankRelease, asId_val, refuse, h]

theorem handle_tankRelease_busy (h : (s.tank x).releasable = true) (hsw : s.inSwitchover x = true) :
    handle (.tankRelease x.val) s = (s, ⟨.busy, .empty⟩) := by
  simp [handle, reqTankRelease, asId_val, refuse, h, hsw]

theorem handle_tankRelease_inUse (h : (s.tank x).releasable = true) (hsw : s.inSwitchover x = false)
    (hf : s.feedsNow x = true) (hp : s.somePrinting = true) :
    handle (.tankRelease x.val) s = (s, ⟨.inUse, .empty⟩) := by
  simp [handle, reqTankRelease, asId_val, refuse, h, hsw, hf, hp]

theorem handle_tankRelease (h : (s.tank x).releasable = true) (hsw : s.inSwitchover x = false)
    (hu : (s.feedsNow x && s.somePrinting) = false) :
    handle (.tankRelease x.val) s = ((s.release x).settle s, ⟨.ok, .empty⟩) := by
  simp only [handle, reqTankRelease, asId_val, h, hsw, hu]
  rfl

/-! ## TANK_REREAD -/

/-- R83: a slot read again. -/
def State.readAgain (s : State) (x : TankId) (m : Option Nat) : State := (s.setTank x (.reading m)).queueTag x .read

theorem handle_tankReread_out (s : State) {slot : Nat} (h : 23 < slot) :
    handle (.tankReread slot) s = (s, ⟨.badSlot, .empty⟩) := by
  simp [handle, reqTankReread, asId_out (show 24 ≤ slot from h), refuse]

theorem handle_tankReread_state (h : (s.tank x).reread = none) :
    handle (.tankReread x.val) s = (s, ⟨.badState, .empty⟩) := by
  simp [handle, reqTankReread, asId_val, refuse, h]

theorem handle_tankReread {m : Option Nat} (h : (s.tank x).reread = some m) :
    handle (.tankReread x.val) s = ((s.readAgain x m).settle s, ⟨.ok, .empty⟩) := by
  simp only [handle, reqTankReread, asId_val, h]
  rfl

theorem readAgain_tags (s : State) (x : TankId) (m : Option Nat) :
    (s.readAgain x m).tags = { s.tags with waiting := put s.tags.waiting x (some .read) } := by
  rw [State.readAgain, queueTag_tags, coalesce_read]
  rfl

theorem readAgain_tank (s : State) (x : TankId) (m : Option Nat) : (s.readAgain x m).tank x = .reading m := by
  rw [State.readAgain, queueTag_tank, setTank_tank_self]

theorem readAgain_tank_ne (s : State) {x y : TankId} (hy : y ≠ x) (m : Option Nat) :
    (s.readAgain x m).tank y = s.tank y := by
  rw [State.readAgain, queueTag_tank, setTank_tank_ne _ _ hy.symm]

theorem readAgain_sameBut (s : State) (x : TankId) (m : Option Nat) : s.sameBut [.supply, .tags] (s.readAgain x m) := by
  simp [sameBut_iff, State.readAgain]

/-- R83, R190: an accepted re-read. -/
theorem exec_tankReread (tag : Nat) {m : Option Nat} (ht : s.takesAtOnce (.tankReread x.val))
    (h : (s.tank x).reread = some m) :
    ∃ t u : State, exec (.tankReread tag x.val) s = .next t ∧ (u.settle s.asked).answers t tag .ok .empty ∧
      s.asked.sameBut [.supply, .tags] u ∧ u.out = [] ∧ u.supply.channels = s.supply.channels ∧
      u.tank x = .reading m ∧ (∀ y, y ≠ x → u.tank y = s.tank y) ∧
      u.tags = { s.tags with waiting := put s.tags.waiting x (some .read) } := by
  obtain ⟨t, hex, hans⟩ := exec_answers (c := .tankReread tag x.val) rfl ht
    (handle_tankReread (s := s.asked) (by rwa [asked_tank]))
  refine ⟨t, _, hex, hans, readAgain_sameBut _ _ _, by simp [State.readAgain], ?_, readAgain_tank _ _ _,
    fun y hy => ?_, ?_⟩
  · simp [State.readAgain, State.setTank]
  · rw [readAgain_tank_ne _ hy, asked_tank]
  · rw [readAgain_tags]
    simp

/-! ## The releases that are accepted -/

/-- R82, R190: an accepted release of a slot that is not in use. -/
theorem exec_tankRelease_spare (tag : Nat) (ht : s.takesAtOnce (.tankRelease x.val)) (hx : s.tank x = .held st r)
    (hst : st = .standby ∨ st = .spent ∨ st = .depleted) (hrel : r.releasePending = false) (hspare : s.spare x) :
    ∃ t u : State, exec (.tankRelease tag x.val) s = .next t ∧ (u.settle s.asked).answers t tag .ok .empty ∧
      s.asked.sameBut [.supply, .tags] u ∧ u.out = [] ∧ u.supply.channels = s.supply.channels ∧
      u.tank x = .held st { r with writeMark := r.fill, releasePending := true } ∧
      (∀ y, y ≠ x → u.tank y = s.tank y) ∧
      u.tags = { s.tags with
        waiting := put s.tags.waiting x (some (if s.tags.waiting[x] = some .read then .read else .write r.fill)) } := by
  obtain ⟨hfed, hsw⟩ := hspare
  have hask : s.asked.tank x = .held st r := by rwa [asked_tank]
  have hrelease : s.asked.release x = s.asked.releasing x := release_spare hask ⟨by rwa [asked_channel], by simpa using hsw⟩
  have hreleasable : (s.asked.tank x).releasable = true := by
    rw [hask]
    rcases hst with rfl | rfl | rfl <;> simp [TankSlot.releasable, hrel]
  have hswitch : s.asked.inSwitchover x = false := by
    rw [Bool.eq_false_iff, ne_eq, inSwitchover_iff, asked_channel]
    rintro ⟨y, n, hf, rfl | ⟨r', hr'⟩⟩
    · exact hsw n hf
    · obtain ⟨rfl, -⟩ := TankSlot.held.inj (hask.symm.trans hr')
      simp at hst
  have hfeeds : s.asked.feedsNow x = false := by
    rwa [Bool.eq_false_iff, ne_eq, feedsNow_iff, asked_channel]
  obtain ⟨t, hex, hans⟩ := exec_answers (c := .tankRelease tag x.val) rfl ht
    (handle_tankRelease hreleasable hswitch (by rw [hfeeds]; rfl))
  rw [hrelease] at hans
  refine ⟨t, _, hex, hans, releasing_sameBut _ _, by simp [State.releasing], ?_, releasing_tank hask, fun y hy => ?_, ?_⟩
  · rw [releasing_channels]; simp
  · rw [releasing_tank_ne hy, asked_tank]
  · rw [releasing_tags hask]
    simp

/-- R82: a FEEDING slot's release, by whether a ticket is PRINTING. -/
theorem exec_tankRelease_feeding (tag : Nat) (ht : s.takesAtOnce (.tankRelease x.val)) (hx : s.tank x = .held .feeding r)
    (hrel : r.releasePending = false) (hf : (s.channel (channelOf x)).feed = .fed (sideOf x)) :
    (s.somePrinting = true →
      ∃ t, exec (.tankRelease tag x.val) s = .next t ∧ s.asked.answers t tag .inUse .empty) ∧
    (s.somePrinting = false →
      ∃ t u : State, exec (.tankRelease tag x.val) s = .next t ∧ (u.settle s.asked).answers t tag .ok .empty ∧
        u.tank x = .held r.awayState { r with writeMark := r.fill, releasePending := true } ∧
        (∀ z, (u.channel (channelOf x)).feed ≠ .fed z)) := by
  have hask : s.asked.tank x = .held .feeding r := by rwa [asked_tank]
  have hfask : (s.asked.channel (channelOf x)).feed = .fed (sideOf x) := by rwa [asked_channel]
  have hprinting : s.asked.somePrinting = s.somePrinting := by simp [State.somePrinting]
  have hreleasable : (s.asked.tank x).releasable = true := by simp [hask, TankSlot.releasable, hrel]
  have hswitch : s.asked.inSwitchover x = false := by
    rw [Bool.eq_false_iff, ne_eq, inSwitchover_iff, hfask]
    rintro ⟨y, n, he, -⟩
    cases he
  have hfeeds : s.asked.feedsNow x = true := (feedsNow_iff _ _).mpr hfask
  refine ⟨fun hp => ?_, fun hp => ?_⟩
  · exact exec_answers rfl ht (handle_tankRelease_inUse hreleasable hswitch hfeeds (hprinting.trans hp))
  · obtain ⟨t, hex, hans⟩ := exec_answers (c := .tankRelease tag x.val) rfl ht
      (handle_tankRelease hreleasable hswitch (by rw [hfeeds, hprinting, hp]; rfl))
    exact ⟨t, _, hex, hans, release_feeding hask hfask⟩

/-- R82: a release refused in a switchover. -/
theorem exec_tankRelease_busy (tag : Nat) {y : Side} {n : Nat} (ht : s.takesAtOnce (.tankRelease x.val))
    (hx : s.tank x = .held st r) (hst : st = .standby ∨ st = .feeding ∨ st = .spent ∨ st = .depleted)
    (hrel : r.releasePending = false) (hf : (s.channel (channelOf x)).feed = .switching y n)
    (hin : tankOf (channelOf x) y = x ∨ st = .feeding) :
    ∃ t, exec (.tankRelease tag x.val) s = .next t ∧ s.asked.answers t tag .busy .empty := by
  refine exec_answers rfl ht (handle_tankRelease_busy ?_ ?_)
  · rw [asked_tank]
    exact (releasable_iff _).mpr ⟨st, r, hx, hst, hrel⟩
  · rw [inSwitchover_iff, asked_channel, asked_tank]
    refine ⟨y, n, hf, hin.imp (fun e => ((tankOf_eq_iff _ _ _).mp e).2) ?_⟩
    rintro rfl
    exact ⟨r, hx⟩

/-- R82: a release refused by the slot's state. -/
theorem exec_tankRelease_state (tag : Nat) (ht : s.takesAtOnce (.tankRelease x.val))
    (h : ∀ st r, s.tank x = .held st r →
      (st = .rejectedKind ∨ st = .rejectedExpired ∨ st = .released) ∨ r.releasePending = true) :
    ∃ t, exec (.tankRelease tag x.val) s = .next t ∧ s.asked.answers t tag .badState .empty :=
  exec_answers rfl ht (handle_tankRelease_state (not_releasable (by simpa using h)))

/-- R83: a re-read refused by the slot's state. -/
theorem exec_tankReread_state (tag : Nat) (ht : s.takesAtOnce (.tankReread x.val)) (h : (s.tank x).reread = none) :
    ∃ t, exec (.tankReread tag x.val) s = .next t ∧ s.asked.answers t tag .badState .empty :=
  exec_answers rfl ht (handle_tankReread_state (by rwa [asked_tank]))

end

/-- Settles O34: the refusals in the order of R82's checks, and the two forms of a release. -/
theorem tanksAreReleasedAndReread : Obligations.TanksAreReleasedAndReread := by
  refine ⟨fun tag slot s hn => ⟨fun ht => ?_, fun ht => ?_⟩,
    fun tag x s => ⟨fun hx => ⟨fun ht => ?_, fun ht => ?_⟩, fun reason m hx ht => ?_,
      fun st r y n hx hst hrel hf hin ht => ?_⟩,
    fun tag x s => ⟨fun ht st r hx => ⟨fun h => ?_, fun hst hrel hfed hsw => ?_, fun y hst hrel hf hy => ?_⟩,
      fun ht => ⟨fun reason m hx => ?_, fun st r hx hst => ?_, fun st r hx hst => ?_⟩⟩⟩
  · exact exec_answers rfl ht (handle_tankRelease_out _ hn)
  · exact exec_answers rfl ht (handle_tankReread_out _ hn)
  · refine exec_tankRelease_state tag ht fun st r hr => ?_
    rcases hx with hx | ⟨m, hx⟩ <;> cases hx.symm.trans hr
  · refine exec_tankReread_state tag ht ?_
    rcases hx with hx | ⟨m, hx⟩ <;> rw [hx] <;> rfl
  · refine exec_tankRelease_state tag ht fun st r hr => ?_
    cases hx.symm.trans hr
  · exact exec_tankRelease_busy tag ht hx hst hrel hf hin
  · refine exec_tankRelease_state tag ht fun st' r' hr => ?_
    obtain ⟨rfl, rfl⟩ := TankSlot.held.inj (hx.symm.trans hr)
    tauto
  · exact exec_tankRelease_spare tag ht hx hst hrel ((spare_iff s x).mpr ⟨hfed, hsw⟩)
  · subst hst
    obtain ⟨-, rfl⟩ := (tankOf_eq_iff _ _ _).mp hy
    obtain ⟨hprinting, hfree⟩ := exec_tankRelease_feeding tag ht hx hrel hf
    refine ⟨fun h => hprinting ((somePrinting_iff s).mpr h), fun h => hfree ?_⟩
    rw [Bool.eq_false_iff, ne_eq, somePrinting_iff]
    rintro ⟨z, k, hk, hp⟩
    exact h z k hk hp
  · exact exec_tankReread tag ht (by rw [hx]; rfl)
  · refine exec_tankReread tag ht ?_
    rw [hx]
    rcases hst with rfl | rfl | rfl <;> rfl
  · refine exec_tankReread_state tag ht ?_
    rw [hx]
    rcases hst with rfl | rfl | rfl | rfl <;> rfl

end Sys2Proof.Machine
end

section
/-! PROOF. Tanks seated and removed, and what their channels lose (R67, R73, R78, R99). -/

namespace Sys2Proof.Machine

open Sys2Proof

/-! ## A channel left without its feeding slot, or its switch target -/

theorem switchTest_notices (s : State) (c : ChannelId) : (s.switchTest c).notices = s.notices := by simp

section
variable {s : State} {c : ChannelId} {y : Side}

/-- R78: the other slot takes over where it can. -/
theorem loseFeeding_one (hy : (s.tank (tankOf c y)).isCandidate = true)
    (ho : (s.tank (tankOf c y.other)).isCandidate = false) :
    s.loseFeeding c = (s.setChannel c { s.channel c with feed := .starved }).startSwitch c y := by
  rw [State.loseFeeding, switchTest_starved_one (y := y) (by simp) (by simpa using hy) (by simpa using ho)]
  simp [State.startSwitch, Channel.isStarved, State.raiseIf]

/-- R78: without a slot that can take over the channel is STARVED. -/
theorem loseFeeding_none (hy : (s.tank (tankOf c y)).isCandidate = false)
    (ho : (s.tank (tankOf c y.other)).isCandidate = false) :
    s.loseFeeding c = (s.setChannel c { s.channel c with feed := .starved }).raise .channelStarved := by
  rw [State.loseFeeding, switchTest_starved_none (y := y) (by simp) (by simpa using hy) (by simpa using ho)]
  simp [Channel.isStarved, State.raiseIf]

theorem loseFeeding_channel_ne (s : State) {b c : ChannelId} (h : b ≠ c) : (s.loseFeeding c).channel b = s.channel b := by
  rw [State.loseFeeding, raiseIf_channel, switchTest_channel_ne _ _ h, setChannel_channel_ne _ _ h.symm]

/-- R78: a notice that is pending stays so. -/
theorem loseFeeding_mono (s : State) (c : ChannelId) {i : Nat} (h : s.notices.pending.getLsbD i = true) :
    (s.loseFeeding c).notices.pending.getLsbD i = true := by
  have hn : ((s.setChannel c { s.channel c with feed := .starved }).switchTest c).notices = s.notices := by simp
  rw [State.loseFeeding, raiseIf_getLsbD, hn, h]
  rfl

/-- R73: a switchover to a slot abandoned, before the test of R70. -/
def State.starveFrom (s : State) (c : ChannelId) (y : Side) : State :=
  ((s.setChannel c { s.channel c with feed := .starved }).leaveFeeding (tankOf c y.other)).raise .channelStarved

theorem abandonSwitch_eq {n : Nat} (hf : (s.channel c).feed = .switching y n) :
    s.abandonSwitch c = (s.starveFrom c y).switchTest c := by
  unfold State.abandonSwitch
  rw [hf]
  rfl

theorem starveFrom_channel_self (s : State) (c : ChannelId) (y : Side) :
    (s.starveFrom c y).channel c = { s.channel c with feed := .starved } := by
  simp [State.starveFrom]

theorem starveFrom_tank_ne (s : State) {x : TankId} (hx : x ≠ tankOf c y.other) :
    (s.starveFrom c y).tank x = s.tank x := by
  rw [State.starveFrom, raise_tank, leaveFeeding_tank_ne _ hx, setChannel_tank]

/-- R73: the outgoing slot leaves FEEDING by its fill. -/
theorem leaveFeeding_tank {t : TankId} {r : TankRecord} (ht : s.tank t = .held .feeding r) :
    ∃ m, (s.leaveFeeding t).tank t = .held r.awayState { r with writeMark := m } := by
  unfold State.leaveFeeding
  rw [ht]
  exact writeBackIfNeeded_tank (setTank_tank_self s t _)

theorem leaveFeeding_stays {t : TankId} (ht : ∀ r, s.tank t ≠ .held .feeding r) : s.leaveFeeding t = s := by
  unfold State.leaveFeeding
  split
  · exact absurd ‹_› (ht _)
  · rfl

theorem starveFrom_tank_other {r : TankRecord} (hx : s.tank (tankOf c y.other) = .held .feeding r) :
    ∃ m, (s.starveFrom c y).tank (tankOf c y.other) = .held r.awayState { r with writeMark := m } :=
  leaveFeeding_tank (s := s.setChannel c { s.channel c with feed := .starved }) hx

/-- R70: a slot that leaves FEEDING cannot take a switchover, and any other stays as it was. -/
theorem starveFrom_candidate (s : State) (c : ChannelId) (y : Side) :
    ((s.starveFrom c y).tank (tankOf c y.other)).isCandidate = (s.tank (tankOf c y.other)).isCandidate := by
  by_cases hx : ∃ r, s.tank (tankOf c y.other) = .held .feeding r
  · obtain ⟨r, hr⟩ := hx
    obtain ⟨m, hm⟩ := starveFrom_tank_other hr
    rw [hm, hr, TankRecord.awayState]
    split <;> rfl
  · rw [State.starveFrom, raise_tank, leaveFeeding_stays (by simpa using hx), setChannel_tank]

theorem starveFrom_getLsbD (s : State) (c : ChannelId) (y : Side) (i : Nat) :
    (s.starveFrom c y).notices.pending.getLsbD i = (s.notices.pending.getLsbD i || decide (i = 6)) := by
  have hn : ((s.setChannel c { s.channel c with feed := .starved }).leaveFeeding (tankOf c y.other)).notices = s.notices := by
    simp
  rw [State.starveFrom, raise_getLsbD, hn]
  rfl

/-- R73: an abandoned switchover of a channel with no other slot that can take over. -/
theorem abandonSwitch_none {n : Nat} (hf : (s.channel c).feed = .switching y n)
    (hy : (s.tank (tankOf c y)).isCandidate = false) (ho : (s.tank (tankOf c y.other)).isCandidate = false) :
    s.abandonSwitch c = s.starveFrom c y := by
  rw [abandonSwitch_eq hf]
  refine switchTest_starved_none (y := y) (by rw [starveFrom_channel_self]) ?_ ?_
  · rwa [starveFrom_tank_ne _ (tankOf_other_ne c y).symm]
  · rwa [starveFrom_candidate]

end

/-! ## Seating -/

section
variable {s : State} {x : TankId}

theorem seatTank_seats (h : s.tank x = .empty) : s.seatTank x = (s.readAgain x none).reload .byTank := by
  unfold State.seatTank
  rw [h]
  rfl

theorem seatTank_seated (h : s.tank x ≠ .empty) : s.seatTank x = s := by
  unfold State.seatTank
  split
  · exact absurd ‹_› h
  · rfl

/-- R174: a reload reads the run record alone. -/
theorem reload_run_congr {t : State} (h : t.run = s.run) (src : ReloadSource) : (t.reload src).run = (s.reload src).run := by
  unfold State.reload
  rw [h]
  split <;> simp [h]

theorem exec_presenceRise (s : State) (x : TankId) :
    exec (.presenceRise x) s = .next (((s.begin.setPresence x true).seatTank x).settle s.begin) := rfl

theorem exec_presenceFall (s : State) (x : TankId) :
    exec (.presenceFall x) s = .next (((s.begin.setPresence x false).removeTank x).settle s.begin) := rfl

/-! ## Removal -/

/-- R99: the bus's phase once the presence line of a slot has fallen. -/
def TagPhase.fallen (p : TagPhase) (x : TankId) : TagPhase :=
  match p with
  | .request tx => if tx.slot = x then .guard 5 else .request tx
  | .turnaround tx n => if tx.slot = x then .guard 5 else .turnaround tx n
  | p => p

theorem fall_eq (b : TagBus) (x : TankId) : b.fall x =
    { b with waiting := put b.waiting x none, images := put b.images x none, phase := b.phase.fallen x } := by
  cases hp : b.phase with
  | idle | guard => simp only [TagBus.fall, hp, TagPhase.fallen]
  | request | turnaround => simp only [TagBus.fall, hp, TagPhase.fallen]; split <;> rfl

/-- R78, R99: a slot removed, before what follows for its channel. -/
def State.emptied (s : State) (x : TankId) : State := ((s.withTags (s.tags.fall x)).setTank x .empty).raise .tankRemoved

theorem removeTank_empty (h : s.tank x = .empty) : s.removeTank x = s := by
  unfold State.removeTank
  rw [h]

theorem removeTank_eq (h : s.tank x ≠ .empty) :
    s.removeTank x = (s.emptied x).afterRemoval (channelOf x) (sideOf x) := by
  unfold State.removeTank
  split
  · exact absurd ‹_› h
  · rfl

theorem emptied_channel (s : State) (x : TankId) (b : ChannelId) : (s.emptied x).channel b = s.channel b := rfl

theorem emptied_tank (s : State) (x y : TankId) : (s.emptied x).tank y = if x = y then .empty else s.tank y := by
  rw [State.emptied, raise_tank, setTank_tank, withTags_tank]

/-- R78: the removal of a spare slot leaves its channel. -/
theorem removeTank_spare (h : s.tank x ≠ .empty) (hx : s.spare x) : s.removeTank x = s.emptied x := by
  obtain ⟨hfed, hsw⟩ := hx
  rw [removeTank_eq h]
  unfold State.afterRemoval
  split
  · rename_i y hy
    exact if_neg fun (e : sideOf x = y) => hfed (by rw [e]; exact hy)
  · rename_i y n hy
    exact if_neg fun (e : sideOf x = y) => hsw n (by rw [e]; exact hy)
  · rfl

end

section
variable {s : State} {c : ChannelId} {y : Side} (h : s.tank (tankOf c y) ≠ .empty)
include h

theorem removeTank_fed (hf : (s.channel c).feed = .fed y) :
    s.removeTank (tankOf c y) = (s.emptied (tankOf c y)).loseFeeding c := by
  rw [removeTank_eq h, State.afterRemoval, channelOf_tankOf, sideOf_tankOf, emptied_channel, hf]
  exact if_pos rfl

theorem removeTank_target {n : Nat} (hf : (s.channel c).feed = .switching y n) :
    s.removeTank (tankOf c y) = (s.emptied (tankOf c y)).abandonSwitch c := by
  rw [removeTank_eq h, State.afterRemoval, channelOf_tankOf, sideOf_tankOf, emptied_channel, hf]
  exact if_pos rfl

end

/-- R67: a presence rise on an EMPTY slot. -/
theorem exec_presenceRise_empty {s : State} {x : TankId} (h : s.tank x = .empty) :
    ∃ u : State, exec (.presenceRise x) s = .next (u.settle s.begin) ∧
      s.sameBut [.supply, .tags, .run] u ∧ u.out = [] ∧ u.supply.channels = s.supply.channels ∧
      u.supply.presence = put s.supply.presence x true ∧ u.tank x = .reading none ∧
      (∀ y, y ≠ x → u.tank y = s.tank y) ∧
      u.tags = { s.tags with waiting := put s.tags.waiting x (some .read) } ∧ u.run = (s.reload .byTank).run := by
  have hseat : (s.begin.setPresence x true).seatTank x = ((s.begin.setPresence x true).readAgain x none).reload .byTank :=
    seatTank_seats h
  have htank : ∀ (u : State) (z : TankId), (u.reload .byTank).tank z = u.tank z := fun u z => by simp [State.tank]
  refine ⟨_, by rw [exec_presenceRise, hseat], ?_, ?_, ?_, ?_, ?_, fun y hy => ?_, ?_, reload_run_congr ?_ _⟩
  · simp [sameBut_iff, State.readAgain, State.begin]
  · simp [State.readAgain, State.begin]
  · simp [State.readAgain, State.begin, State.setPresence, State.setTank]
  · simp [State.readAgain, State.begin, State.setPresence, State.setTank]
  · rw [htank, readAgain_tank]
  · rw [htank, readAgain_tank_ne _ hy]
    rfl
  · simp only [reload_keeps, readAgain_tags, setPresence_keeps]
    rfl
  · simp [State.readAgain, State.begin]

/-- R78, R99: the removal of a slot its channel does not need. -/
theorem exec_presenceFall_spare {s : State} {x : TankId} (h : s.tank x ≠ .empty) (hx : s.spare x) :
    ∃ u : State, exec (.presenceFall x) s = .next (u.settle s.begin) ∧ s.sameBut [.supply, .tags, .notices] u ∧
      u.out = [] ∧ u.supply.channels = s.supply.channels ∧ u.supply.presence = put s.supply.presence x false ∧
      u.tank x = .empty ∧ (∀ y, y ≠ x → u.tank y = s.tank y) ∧
      u.notices = { s.notices with pending := s.notices.pending ||| 1#18 <<< 8 } ∧
      u.tags = { s.tags with
        waiting := put s.tags.waiting x none, images := put s.tags.images x none, phase := s.tags.phase.fallen x } := by
  have hremove : (s.begin.setPresence x false).removeTank x = (s.begin.setPresence x false).emptied x :=
    removeTank_spare h hx
  refine ⟨(s.begin.setPresence x false).emptied x, by rw [exec_presenceFall, hremove], ?_, rfl, rfl,
    rfl, ?_, fun y hy => ?_, rfl, fall_eq _ _⟩
  · simp [sameBut_iff, State.emptied, State.begin]
  · rw [emptied_tank, if_pos rfl]
  · rw [emptied_tank, if_neg hy.symm]
    rfl

/-- R78: a slot removed cannot take a switchover, and the other one is as it was. -/
theorem emptied_candidates (s : State) (c : ChannelId) (y : Side) :
    ((s.emptied (tankOf c y)).tank (tankOf c y)).isCandidate = false ∧
      (s.emptied (tankOf c y)).tank (tankOf c y.other) = s.tank (tankOf c y.other) := by
  rw [emptied_tank, if_pos rfl, emptied_tank, if_neg (tankOf_other_ne c y).symm]
  exact ⟨rfl, rfl⟩

/-- R78: TANK_REMOVED is pending, and CHANNEL_STARVED as it was. -/
theorem emptied_getLsbD (s : State) (x : TankId) (i : Nat) : (s.emptied x).notices.pending.getLsbD i =
    (s.notices.pending.getLsbD i || decide (i = 8)) := by
  rw [State.emptied, raise_getLsbD]
  rfl

theorem not_isCandidate {v : TankSlot} (h : ∀ r, v = .held .standby r → r.releasePending = true) :
    v.isCandidate = false := by
  rw [Bool.eq_false_iff, ne_eq, isCandidate_iff]
  rintro ⟨r, hr, hrel⟩
  simp [h r hr] at hrel

section
variable {s : State} {c : ChannelId} {y : Side} {st : HeldState} {r : TankRecord} (hx : s.tank (tankOf c y) = .held st r)
include hx

/-- R78: the removal of a feeding slot. -/
theorem exec_presenceFall_fed (hf : (s.channel c).feed = .fed y) :
    ∃ u : State, exec (.presenceFall (tankOf c y)) s = .next (u.settle s.begin) ∧ u.tank (tankOf c y) = .empty ∧
      u.notices.pending.getLsbD 8 = true ∧ (∀ b, b ≠ c → u.channel b = s.channel b) ∧
      ((∃ r', s.tank (tankOf c y.other) = .held .standby r' ∧ r'.releasePending = false) →
        (u.channel c).feed = .switching y.other 1500 ∧ (u.channel c).valve = y.other ∧
        u.notices.pending.getLsbD 6 = s.notices.pending.getLsbD 6) ∧
      ((∀ r', s.tank (tankOf c y.other) = .held .standby r' → r'.releasePending = true) →
        (u.channel c).feed = .starved ∧ u.notices.pending.getLsbD 6 = true) := by
  have hremove : (s.begin.setPresence (tankOf c y) false).removeTank (tankOf c y) =
      ((s.begin.setPresence (tankOf c y) false).emptied (tankOf c y)).loseFeeding c :=
    removeTank_fed (s := s.begin.setPresence (tankOf c y) false) (fun e => nomatch hx.symm.trans e) hf
  obtain ⟨hself, hother⟩ := emptied_candidates (s.begin.setPresence (tankOf c y) false) c y
  have hbits := emptied_getLsbD (s.begin.setPresence (tankOf c y) false) (tankOf c y)
  refine ⟨_, by rw [exec_presenceFall, hremove], ?_, ?_, fun b hb => ?_, fun ho => ?_, fun ho => ?_⟩
  · rw [loseFeeding_tank, emptied_tank, if_pos rfl]
  · exact loseFeeding_mono _ c (by simp [hbits])
  · rw [loseFeeding_channel_ne _ hb]
    rfl
  · rw [loseFeeding_one (y := y.other) (by rw [hother]; exact (isCandidate_iff _).mpr ho) (by rwa [other_other])]
    refine ⟨by simp [State.startSwitch], by simp [State.startSwitch], (hbits 6).trans ?_⟩
    simp
  · rw [loseFeeding_none hself (by rw [hother]; exact not_isCandidate ho)]
    exact ⟨by simp, raise_bit _ .channelStarved⟩

/-- R73, R78: the removal of a switch target. -/
theorem exec_presenceFall_target {n : Nat} (hf : (s.channel c).feed = .switching y n) :
    ∃ u : State, exec (.presenceFall (tankOf c y)) s = .next (u.settle s.begin) ∧ u.tank (tankOf c y) = .empty ∧
      u.notices.pending.getLsbD 8 = true ∧ u.notices.pending.getLsbD 6 = true ∧
      (∀ b, b ≠ c → u.channel b = s.channel b) ∧
      (∀ r', s.tank (tankOf c y.other) = .held .feeding r' → (u.channel c).feed = .starved ∧
        (u.channel c).valve = (s.channel c).valve ∧
        ∃ r'', u.tank (tankOf c y.other) = .held r'.awayState r'' ∧ r'' = { r' with writeMark := r''.writeMark }) := by
  have hremove : (s.begin.setPresence (tankOf c y) false).removeTank (tankOf c y) =
      ((s.begin.setPresence (tankOf c y) false).emptied (tankOf c y)).abandonSwitch c :=
    removeTank_target (s := s.begin.setPresence (tankOf c y) false) (fun e => nomatch hx.symm.trans e) hf
  have hfeed : (((s.begin.setPresence (tankOf c y) false).emptied (tankOf c y)).channel c).feed = .switching y n := hf
  obtain ⟨hself, hother⟩ := emptied_candidates (s.begin.setPresence (tankOf c y) false) c y
  have hbits := emptied_getLsbD (s.begin.setPresence (tankOf c y) false) (tankOf c y)
  refine ⟨_, by rw [exec_presenceFall, hremove], ?_, ?_, ?_, fun b hb => ?_, fun r' hr' => ?_⟩
  · rw [abandonSwitch_eq hfeed, switchTest_tank, starveFrom_tank_ne _ (tankOf_other_ne c y).symm, emptied_tank,
      if_pos rfl]
  · rw [abandonSwitch_eq hfeed, switchTest_notices, starveFrom_getLsbD, hbits]
    simp
  · rw [abandonSwitch_eq hfeed, switchTest_notices, starveFrom_getLsbD]
    simp
  · rw [bottles_channel (abandonSwitch_bottles _ hb)]
    rfl
  · have hfeeding := hother.trans hr'
    rw [abandonSwitch_none hfeed hself (by rw [hfeeding]; rfl), starveFrom_channel_self]
    obtain ⟨m, hm⟩ := starveFrom_tank_other hfeeding
    exact ⟨rfl, rfl, _, hm, rfl⟩

end

/-- Settles O31: the channel's law of R78 follows the slot's removal. -/
theorem presenceSeatsAndRemovesTanks : Obligations.PresenceSeatsAndRemovesTanks := by
  refine ⟨fun x s => ⟨exec_presenceRise_empty, fun h => ?_, fun h => ?_, fun h hfed hsw => ?_⟩,
    fun c y st r s hx => ⟨fun hf => exec_presenceFall_fed hx hf, fun n hf => exec_presenceFall_target hx hf⟩⟩
  · refine ⟨s.begin.setPresence x true, ?_, by simp [sameBut_iff, State.begin], rfl, rfl⟩
    rw [exec_presenceRise, seatTank_seated (s := s.begin.setPresence x true) h]
  · refine ⟨s.begin.setPresence x false, ?_, by simp [sameBut_iff, State.begin], rfl, rfl⟩
    rw [exec_presenceFall, removeTank_empty (s := s.begin.setPresence x false) h]
  · exact exec_presenceFall_spare h ((spare_iff s x).mpr ⟨hfed, hsw⟩)

end Sys2Proof.Machine
end

section
/-! PROOF. A tag image's tests, and what is stored of it (R68, R69, R83). -/

namespace Sys2Proof.Machine

open Sys2Proof

/-! ## The tests -/

/-- Test 1 of R68. -/
def crcFits (b : List Byte) : Prop := field b 18 2 = (crc16 (b.take 18)).toNat

/-- Tests 2 and 3 of R68. -/
def formFits (b : List Byte) : Prop := field b 0 1 = 0x5A ∧ 150 ≤ field b 6 2 ∧ field b 6 2 ≤ 1000

/-- Test 5 of R68. -/
def imageLate (b : List Byte) (date : Nat) : Prop := date ≠ 0 ∧ field b 15 2 ≠ 0 ∧ field b 15 2 < date

section
variable {b : List Byte} {c : ChannelId} {date : Nat}

theorem imageCrcOk_iff (b : List Byte) : imageCrcOk b = true ↔ crcFits b := by
  simp [imageCrcOk, crcFits]

theorem pastExpiry_iff (date expiry : Nat) :
    pastExpiry date expiry = true ↔ date ≠ 0 ∧ expiry ≠ 0 ∧ expiry < date := by
  simp [pastExpiry, and_assoc]

theorem validate_check (h : ¬ crcFits b) : validate b c date = .rejectedBare .check := by
  rw [← imageCrcOk_iff, Bool.not_eq_true] at h
  simp [validate, h]

theorem validate_format (hc : crcFits b) (h : ¬ formFits b) : validate b c date = .rejectedBare .format := by
  rw [← imageCrcOk_iff] at hc
  by_cases hf : field b 0 1 = 0x5A
  · have hw : within 150 1000 (field b 6 2) = false := by
      simp only [formFits, hf, true_and] at h
      simpa [within] using h
    simp [validate, hc, tagImage, hf, hw]
  · simp [validate, hc, tagImage, hf]

/-- R68: past tests 1 to 3 an image's kind and its expiry decide. -/
theorem validate_formed (hc : crcFits b) (hf : formFits b) : validate b c date =
    if field b 1 1 ≠ c.val + 1 then .rejectedKind
    else if pastExpiry date (field b 15 2) then .rejectedExpired else .valid := by
  rw [← imageCrcOk_iff] at hc
  obtain ⟨hform, hlow, hhigh⟩ := hf
  simp [validate, hc, tagImage, within, hform, hlow, hhigh, kindOf]

theorem validate_kind (hc : crcFits b) (hf : formFits b) (hk : field b 1 1 ≠ c.val + 1) :
    validate b c date = .rejectedKind := by
  rw [validate_formed hc hf, if_pos hk]

theorem validate_expired (hc : crcFits b) (hf : formFits b) (hk : field b 1 1 = c.val + 1) (hl : imageLate b date) :
    validate b c date = .rejectedExpired := by
  rw [validate_formed hc hf, if_neg (not_not.mpr hk), if_pos ((pastExpiry_iff _ _).mpr hl)]

theorem validate_valid (hc : crcFits b) (hf : formFits b) (hk : field b 1 1 = c.val + 1) (hl : ¬ imageLate b date) :
    validate b c date = .valid := by
  rw [validate_formed hc hf, if_neg (not_not.mpr hk), if_neg (mt (pastExpiry_iff _ _).mp hl)]

end

/-! ## What is stored -/

/-- R69, R83: the fill is the least of the image's, the capacity and a remembered one. -/
theorem storedFill_eq (b : List Byte) (m : Option Nat) : storedFill (tagImage b) m =
    min (min (field b 6 2 * 1000000) (field b 8 4)) (m.getD (field b 6 2 * 1000000)) := by
  cases m with
  | none => simp [storedFill, tagImage, mlToNl]
  | some m => rfl

/-- R69: the record of an image, with the fill that is stored. -/
def imageRecord (b : List Byte) (f : Nat) : TankRecord :=
  { kind := field b 1 1, lot := field b 2 4, capacity := field b 6 2, fill := f, price := min 10000000 (field b 12 3),
    expiry := field b 15 2, lastWritten := f, writeMark := f, stale := false, expired := false, releasePending := false }

section
variable {s : State} {x : TankId} {b : List Byte} {m : Option Nat} {f : Nat} (hx : s.tank x = .reading m)
  (hf : f = min (min (field b 6 2 * 1000000) (field b 8 4)) (m.getD (field b 6 2 * 1000000)))

include hx hf in
theorem recordFrom_eq : recordFrom (tagImage b) (s.tank x).remembered = imageRecord b f := by
  have hfill : storedFill (tagImage b) (s.tank x).remembered = f := by rw [hx, hf]; exact storedFill_eq b m
  simp only [recordFrom, hfill]
  rfl

include hx in
theorem takeImage_bare {reason : BareReason} (hv : validate b (channelOf x) s.date = .rejectedBare reason) :
    s.takeImage x b = (s.setTank x (.rejectedBare reason m)).raise .tankRejected := by
  simp [State.takeImage, hv, State.rejectBare, hx, TankSlot.remembered]

include hx hf

theorem takeImage_kind (hv : validate b (channelOf x) s.date = .rejectedKind) :
    s.takeImage x b = (s.setTank x (.held .rejectedKind (imageRecord b f))).raise .tankRejected := by
  simp [State.takeImage, hv, recordFrom_eq hx hf]

theorem takeImage_expired (hv : validate b (channelOf x) s.date = .rejectedExpired) :
    s.takeImage x b = (s.setTank x (.held .rejectedExpired (imageRecord b f))).raise .tankRejected := by
  simp [State.takeImage, hv, recordFrom_eq hx hf]

theorem takeImage_empty (hv : validate b (channelOf x) s.date = .valid) (h0 : f = 0) :
    s.takeImage x b = s.setTank x (.held .depleted (imageRecord b f)) := by
  simp [State.takeImage, hv, recordFrom_eq hx hf, imageRecord, h0]

theorem takeImage_standby (hv : validate b (channelOf x) s.date = .valid) (h0 : 0 < f) :
    s.takeImage x b = (s.setTank x (.held .standby (imageRecord b f))).switchTest (channelOf x) := by
  simp [State.takeImage, hv, recordFrom_eq hx hf, imageRecord, h0.ne']

end

/-- R68: an image is stored in its own slot. -/
theorem takeImage_tank_ne (s : State) {x y : TankId} (hy : y ≠ x) (b : List Byte) :
    (s.takeImage x b).tank y = s.tank y := by
  have hset : ∀ v, (s.setTank x v).tank y = s.tank y := fun v => setTank_tank_ne _ _ hy.symm
  unfold State.takeImage State.rejectBare
  dsimp only
  split
  · exact hset _
  · exact hset _
  · exact hset _
  · split
    · exact hset _
    · rw [switchTest_tank, hset]

/-- Settles O32: the tests name the branch of an image, and the branch what is stored. -/
theorem imageIsValidatedInOrder : Obligations.ImageIsValidatedInOrder := by
  intro x b m f s hx hf
  refine ⟨fun hc => ?_, fun hc hform => ?_, fun hc hform hk => ?_, fun hc hform hk hl => ?_,
    fun hc hform hk hl h0 => takeImage_empty hx hf (validate_valid hc hform hk hl) h0,
    fun hc hform hk hl h0 => ?_, fun y hy => takeImage_tank_ne s hy b⟩
  · rw [takeImage_bare hx (validate_check hc)]
    exact ⟨by simp, raise_bit _ .tankRejected⟩
  · rw [takeImage_bare hx (validate_format hc hform)]
    exact ⟨by simp, raise_bit _ .tankRejected⟩
  · rw [takeImage_kind hx hf (validate_kind hc hform hk)]
    exact ⟨setTank_tank_self _ _ _, raise_bit _ .tankRejected⟩
  · rw [takeImage_expired hx hf (validate_expired hc hform hk hl)]
    exact ⟨setTank_tank_self _ _ _, raise_bit _ .tankRejected⟩
  · rw [takeImage_standby hx hf (validate_valid hc hform hk hl) h0]
    refine ⟨by rw [switchTest_tank, setTank_tank_self]; rfl, by simp [sameBut_iff], fun hs => ?_⟩
    obtain ⟨z, hz⟩ := switchTest_starved_some (s := s.setTank x (.held .standby (imageRecord b f)))
      (c := channelOf x) (y := sideOf x) hs (by simp [TankSlot.isCandidate, imageRecord])
    exact ⟨z, by simp [hz, State.startSwitch]⟩

end Sys2Proof.Machine
end

section
/-! PROOF. The tag bus's phases, and the ends of its transactions (R81, R88, R90 to R99). -/

namespace Sys2Proof.Machine

open Sys2Proof

/-! ## The verdict on an answer (R90) -/

section
variable {tx : TagTransaction} {f : List Byte}

/-- R90: a frame sealed and addressed to its transaction's slot is judged by its command. -/
theorem judgeAnswer_sealed (hs : sealOk f = true) (ha : field f 0 1 = tx.slot.val) :
    (!sealOk f || field f 0 1 != tx.slot.val) = false := by
  simp [hs, ha]

theorem judgeAnswer_failure (h : sealOk f = false ∨ field f 0 1 ≠ tx.slot.val) : judgeAnswer tx f = .failure := by
  have hbad : (!sealOk f || field f 0 1 != tx.slot.val) = true := by simpa using h
  simp [judgeAnswer, hbad]

theorem judgeAnswer_read (ho : tx.op = .read) (hl : f.length = 23) (hs : sealOk f = true)
    (ha : field f 0 1 = tx.slot.val) (hc : field f 1 1 = 0x01) :
    judgeAnswer tx f = .image ((f.drop 2).take 20) := by
  simp [judgeAnswer, judgeAnswer_sealed hs ha, ho, hl, hc]

variable {fill : Nat}

theorem judgeAnswer_written (ho : tx.op = .write fill) (hl : f.length = 7) (hs : sealOk f = true)
    (ha : field f 0 1 = tx.slot.val) (hc : field f 1 1 = 0x02) (hf : field f 2 4 = fill) :
    judgeAnswer tx f = .written := by
  simp [judgeAnswer, judgeAnswer_sealed hs ha, ho, hl, hc, hf]

/-- R90, R93: an error report on a WRITE. -/
theorem judgeAnswer_error (ho : tx.op = .write fill) (hl : f.length = 4) (hs : sealOk f = true)
    (ha : field f 0 1 = tx.slot.val) (hc : field f 1 1 = 0xEE)
    (he : field f 2 1 = 2 ∨ field f 2 1 = 3 ∨ field f 2 1 = 4) :
    judgeAnswer tx f = .unknownCommand ∨ judgeAnswer tx f = .refused := by
  rcases he with he | he | he <;> simp [judgeAnswer, judgeAnswer_sealed hs ha, ho, hl, hc, he]

end

/-! ## The ends of an attempt -/

section
variable {s : State} {tx : TagTransaction}

theorem missed_first (h : tx.retry = false) (m : Miss) : s.missed tx m = s.retryTag tx := by
  simp [State.missed, h]

theorem missed_read (h : tx.retry = true) (ho : tx.op = .read) (begun : Bool) :
    s.missed tx (if begun then .badFrame else .noAnswer) =
      s.freeBus.rejectBare tx.slot (if begun then .check else .silent) := by
  cases begun <;> simp [State.missed, h, ho]

theorem writeEnded_held {x : TankId} {st : HeldState} {r : TankRecord} (hx : s.tank x = .held st r) (fill : Nat)
    (written : Bool) : s.writeEnded x fill written = s.setTank x (.held (if r.releasePending then .released else st)
      { (if written then { r with lastWritten := fill, stale := false } else { r with stale := true }) with
        releasePending := false }) := by
  unfold State.writeEnded
  rw [hx]
  rfl

/-- R93, R97: a WRITE's end is handed where nothing newer is pending. -/
theorem endWrite_handed {x : TankId} (hw : s.tags.waiting[x] = none) (fill : Nat) (written : Bool) :
    s.endWrite x fill written = (s.freeBus.raiseIf (!written) .tagFault).writeEnded x fill written := by
  have hfree : (s.freeBus.raiseIf (!written) .tagFault).tags.waiting[x] = none := by
    simp only [raiseIf_keeps]
    exact hw
  simp only [State.endWrite, hfree]
  rfl

variable {n : Nat} (hp : s.tags.phase = .turnaround tx n)
include hp

theorem exec_turnaroundExpiry (begun : Bool) : exec (.turnaroundExpiry begun) s =
    .next ((s.begin.missed tx (if begun then .badFrame else .noAnswer)).settle s.begin) := by
  have h : exec (.turnaroundExpiry begun) s = .next (turnaroundExpired begun s.begin) := rfl
  have hb : s.begin.tags.phase = .turnaround tx n := hp
  rw [h, turnaroundExpired, hb]

theorem exec_tagAnswer (f : List Byte) :
    exec (.tagAnswer f) s = .next ((s.begin.answered tx (judgeAnswer tx f)).settle s.begin) := by
  have h : exec (.tagAnswer f) s = .next (tagAnswerEvent f s.begin) := rfl
  have hb : s.begin.tags.phase = .turnaround tx n := hp
  rw [h, tagAnswerEvent, hb]

end

/-- R95: what the end of a first attempt leaves. -/
theorem retryTag_begin (s : State) (tx : TagTransaction) : s.sameBut [.tags] (s.begin.retryTag tx) ∧
    (s.begin.retryTag tx).tags = { s.tags with phase := .request { tx with retry := true } } ∧
    (s.begin.retryTag tx).out = [.tag (s.tagFrame tx)] := by
  refine ⟨?_, rfl, rfl⟩
  simp [sameBut_iff, State.begin]

/-- R94: outside TURNAROUND an answer and an expiry have no effect. -/
theorem exec_offTurnaround {s : State} (h : ∀ tx n, s.tags.phase ≠ .turnaround tx n) (begun : Bool) (f : List Byte) :
    exec (.turnaroundExpiry begun) s = .next s.begin ∧ exec (.tagAnswer f) s = .next s.begin := by
  have he : exec (.turnaroundExpiry begun) s = .next (turnaroundExpired begun s.begin) := rfl
  have ha : exec (.tagAnswer f) s = .next (tagAnswerEvent f s.begin) := rfl
  rw [he, ha]
  unfold turnaroundExpired tagAnswerEvent
  constructor <;> split
  · exact absurd ‹_› (h _ _)
  · rfl
  · exact absurd ‹_› (h _ _)
  · rfl

/-! ## The events -/

/-- R88: the end of the request frame starts the turnaround timer. -/
theorem exec_requestSent (s : State) :
    (∀ tx, s.tags.phase = .request tx →
      exec .requestSent s = .next (s.begin.withTags { s.tags with phase := .turnaround tx 5 })) ∧
    ((∀ tx, s.tags.phase ≠ .request tx) → exec .requestSent s = .next s.begin) := by
  have h : exec .requestSent s = .next (requestSentEvent s.begin) := rfl
  rw [h]
  unfold requestSentEvent
  refine ⟨fun tx hp => ?_, fun hn => ?_⟩
  · have hb : s.begin.tags.phase = .request tx := hp
    rw [hb]
    rfl
  · split
    · exact absurd ‹_› (hn _)
    · rfl

/-- R99: the guard timer's expiry releases the bus. -/
theorem exec_guardExpiry (s : State) :
    (∀ n, s.tags.phase = .guard n →
      exec .guardExpiry s = .next (State.settle (s.begin.withTags { s.tags with phase := .idle }) s.begin)) ∧
    ((∀ n, s.tags.phase ≠ .guard n) → exec .guardExpiry s = .next s.begin) := by
  have h : exec .guardExpiry s = .next (guardExpired s.begin) := rfl
  rw [h]
  unfold guardExpired
  refine ⟨fun n hp => ?_, fun hn => ?_⟩
  · have hb : s.begin.tags.phase = .guard n := hp
    rw [hb]
    rfl
  · split
    · exact absurd ‹_› (hn _)
    · rfl

/-- R93, R94: a READ whose second attempt brings nothing usable. -/
theorem exec_turnaroundExpiry_read {s : State} {tx : TagTransaction} {n : Nat} (begun : Bool)
    (hp : s.tags.phase = .turnaround tx n) (hr : tx.retry = true) (ho : tx.op = .read) :
    ∃ u : State, exec (.turnaroundExpiry begun) s = .next (u.settle s.begin) ∧
      u.tags = { s.tags with phase := .idle } ∧
      u.tank tx.slot = .rejectedBare (if begun then .check else .silent) (s.tank tx.slot).remembered ∧
      u.notices = { s.notices with pending := s.notices.pending ||| 1#18 <<< 7 } ∧
      s.sameBut [.tags, .supply, .notices] u := by
  refine ⟨s.begin.freeBus.rejectBare tx.slot (if begun then .check else .silent), ?_, rfl, ?_, rfl, ?_⟩
  · rw [exec_turnaroundExpiry hp, missed_read hr ho]
  · rw [State.rejectBare, raise_tank, setTank_tank_self]
    rfl
  · simp [sameBut_iff, State.begin, State.freeBus, State.rejectBare]

/-- R91: an accepted image. -/
theorem exec_tagAnswer_image {s : State} {tx : TagTransaction} {n : Nat} {f : List Byte}
    (hp : s.tags.phase = .turnaround tx n) (ho : tx.op = .read) (hl : f.length = 23) (hs : sealOk f = true)
    (ha : field f 0 1 = tx.slot.val) (hc : field f 1 1 = 0x01) :
    exec (.tagAnswer f) s = .next (State.settle (State.takeImage (s.begin.withTags
      { s.tags with phase := .idle, images := put s.tags.images tx.slot (some (((f.drop 2).take 20).take 18)) })
        tx.slot ((f.drop 2).take 20)) s.begin) := by
  rw [exec_tagAnswer hp, judgeAnswer_read ho hl hs ha hc]
  rfl

/-- R93, R97: an accepted write. -/
theorem exec_tagAnswer_written {s : State} {tx : TagTransaction} {n fill : Nat} {f : List Byte} {st : HeldState}
    {r : TankRecord} (hp : s.tags.phase = .turnaround tx n) (ho : tx.op = .write fill) (hl : f.length = 7)
    (hs : sealOk f = true) (ha : field f 0 1 = tx.slot.val) (hc : field f 1 1 = 0x02) (hf : field f 2 4 = fill)
    (hw : s.tags.waiting[tx.slot] = none) (hx : s.tank tx.slot = .held st r) :
    exec (.tagAnswer f) s = .next (State.settle ((s.begin.withTags { s.tags with phase := .idle }).setTank tx.slot
      (.held (if r.releasePending then .released else st)
        { r with lastWritten := fill, stale := false, releasePending := false })) s.begin) := by
  have hend : s.begin.answered tx .written = s.begin.endWrite tx.slot fill true := by simp [State.answered, ho]
  rw [exec_tagAnswer hp, judgeAnswer_written ho hl hs ha hc hf, hend, endWrite_handed (s := s.begin) hw,
    writeEnded_held (s := s.begin.freeBus.raiseIf (!true) .tagFault) hx]
  rfl

/-- R93, R97: a write that the tag refuses. -/
theorem exec_tagAnswer_refused {s : State} {tx : TagTransaction} {n fill : Nat} {f : List Byte} {st : HeldState}
    {r : TankRecord} (hp : s.tags.phase = .turnaround tx n) (ho : tx.op = .write fill) (hl : f.length = 4)
    (hs : sealOk f = true) (ha : field f 0 1 = tx.slot.val) (hc : field f 1 1 = 0xEE)
    (he : field f 2 1 = 2 ∨ field f 2 1 = 3 ∨ field f 2 1 = 4)
    (hw : s.tags.waiting[tx.slot] = none) (hx : s.tank tx.slot = .held st r) :
    exec (.tagAnswer f) s = .next (State.settle (((s.begin.withTags { s.tags with phase := .idle }).withNotices
      { s.notices with pending := s.notices.pending ||| 1#18 <<< 9 }).setTank tx.slot
      (.held (if r.releasePending then .released else st) { r with stale := true, releasePending := false })) s.begin) := by
  have hend : s.begin.answered tx (judgeAnswer tx f) = s.begin.endWrite tx.slot fill false := by
    rcases judgeAnswer_error ho hl hs ha hc he with e | e <;> simp [State.answered, e, ho]
  rw [exec_tagAnswer hp, hend, endWrite_handed (s := s.begin) hw,
    writeEnded_held (s := s.begin.freeBus.raiseIf (!false) .tagFault) hx]
  rfl

/-- Settles O37: each event by the phase it finds, each answer by its verdict. -/
theorem tagBusFollowsItsEvents : Obligations.TagBusFollowsItsEvents := by
  refine ⟨fun s => ⟨(exec_requestSent s).1, (exec_requestSent s).2, fun tx n begun hp hr => ?_,
      fun tx n begun hp hr ho => exec_turnaroundExpiry_read begun hp hr ho, exec_offTurnaround,
      (exec_guardExpiry s).1, (exec_guardExpiry s).2⟩,
    fun tx n f s hp => ⟨exec_tagAnswer_image hp,
      fun fill st r ho hl hs ha hc hf hw hx => exec_tagAnswer_written hp ho hl hs ha hc hf hw hx,
      fun fill st r ho hl hs ha hc he hw hx => exec_tagAnswer_refused hp ho hl hs ha hc he hw hx, fun hb hr => ?_⟩⟩
  · exact ⟨_, by rw [exec_turnaroundExpiry hp, missed_first hr], retryTag_begin s tx⟩
  · have hmiss : s.begin.answered tx .failure = s.begin.missed tx .badFrame := rfl
    exact ⟨_, by rw [exec_tagAnswer hp, judgeAnswer_failure hb, hmiss, missed_first hr], retryTag_begin s tx⟩

end Sys2Proof.Machine
end

section
/-! PROOF. DATE_SET: the tanks past their expiry, and the switchovers to one (R73, R84, R195). -/

namespace Sys2Proof.Machine

open Sys2Proof

/-! ## The flags -/

/-- R84: a slot once a date has flagged it, where it does. -/
def TankSlot.flagged (v : TankSlot) (date : Nat) : TankSlot :=
  match v with
  | .held .feeding r => if pastExpiry date r.expiry then .held .feeding { r with expired := true } else v
  | _ => v

theorem flagExpired_tank_self (s : State) (date : Nat) (t : TankId) :
    (s.flagExpired date t).tank t = (s.tank t).flagged date := by
  unfold State.flagExpired TankSlot.flagged
  rcases ht : s.tank t with _ | _ | _ | ⟨st, r⟩
  case held =>
    cases st
    case feeding =>
      dsimp only
      split <;> simp [ht]
    all_goals exact ht
  all_goals exact ht

theorem flagExpired_tank (s : State) (date : Nat) (t x : TankId) :
    (s.flagExpired date t).tank x = if t = x then (s.tank x).flagged date else s.tank x := by
  by_cases hx : t = x
  · subst hx
    rw [if_pos rfl, flagExpired_tank_self]
  · rw [if_neg hx, State.flagExpired]
    split
    · split
      · rw [setTank_tank_ne _ _ hx]
      · rfl
    · rfl

theorem flagExpired_supply (s : State) (date : Nat) (t : TankId) :
    (s.flagExpired date t).supply.channels = s.supply.channels ∧
      (s.flagExpired date t).supply.presence = s.supply.presence := by
  unfold State.flagExpired
  split
  · split <;> exact ⟨rfl, rfl⟩
  · exact ⟨rfl, rfl⟩

theorem flagAll_tank (s : State) (date : Nat) (x : TankId) : (s.flagAll date).tank x = (s.tank x).flagged date := by
  rw [State.flagAll, foldl_pointwise State.tank (fun s t => s.flagExpired date t) (TankSlot.flagged · date)
    (fun s t x => flagExpired_tank s date t x) _ (List.nodup_finRange 24), if_pos (List.mem_finRange x)]

theorem flagAll_channels (s : State) (date : Nat) : (s.flagAll date).supply.channels = s.supply.channels :=
  List.foldlRecOn (motive := fun u => u.supply.channels = s.supply.channels) _ _ rfl fun u hu x _ =>
    (flagExpired_supply u date x).1.trans hu

theorem flagAll_presence (s : State) (date : Nat) : (s.flagAll date).supply.presence = s.supply.presence :=
  List.foldlRecOn (motive := fun u => u.supply.presence = s.supply.presence) _ _ rfl fun u hu x _ =>
    (flagExpired_supply u date x).2.trans hu

theorem flagAll_same (s : State) (date : Nat) : (s.flagAll date).tags = s.tags ∧ (s.flagAll date).notices = s.notices := by
  unfold State.flagAll
  constructor
  · exact foldl_keeps (fun s : State => s.tags) _ (by simp) _ _
  · exact foldl_keeps (fun s : State => s.notices) _ (by simp) _ _

/-! ## The rejections -/

theorem rejectAll_presence (s : State) (date : Nat) : (s.rejectAll date).supply.presence = s.supply.presence := by
  unfold State.rejectAll
  refine foldl_keeps (fun s : State => s.supply.presence) _ (fun s t => ?_) _ _
  unfold State.rejectExpired
  split
  · split <;> rfl
  · rfl

/-- R84: TANK_REJECTED is raised by a slot that the date rejects. -/
theorem rejectExpired_notices (s : State) (date : Nat) (t : TankId) :
    (s.rejectExpired date t).notices = (s.raiseIf ((s.tank t).expires date) .tankRejected).notices := by
  unfold State.rejectExpired
  split
  · split
    · rename_i he
      rw [he]
      rfl
    · rename_i he
      rw [Bool.eq_false_iff.mpr he]
      rfl
  · rename_i hn
    have he : (s.tank t).expires date = false := by
      unfold TankSlot.expires
      split
      · exact absurd ‹_› (hn _)
      · rfl
    rw [he]
    rfl

/-- R84: the rejections raise TANK_REJECTED where they reject a slot. -/
theorem rejections_notices (date : Nat) (ts : List TankId) (hn : ts.Nodup) (s : State) :
    (ts.foldl (fun s t => s.rejectExpired date t) s).notices =
      (s.raiseIf (ts.any fun t => (s.tank t).expires date) .tankRejected).notices := by
  induction ts generalizing s with
  | nil => rfl
  | cons t ts ih =>
    obtain ⟨ht, hn⟩ := List.nodup_cons.mp hn
    have hrest : (ts.any fun x => ((s.rejectExpired date t).tank x).expires date) =
        ts.any fun x => (s.tank x).expires date := by
      rw [Bool.eq_iff_iff, List.any_eq_true, List.any_eq_true]
      refine exists_congr fun x => and_congr_right fun hx => ?_
      rw [rejectExpired_tank, if_neg fun (e : t = x) => ht (e ▸ hx)]
    rw [List.foldl_cons, ih hn, hrest, raiseIf_notices, rejectExpired_notices, List.any_cons, raiseIf_notices, raiseIf_notices]
    cases (s.tank t).expires date <;> cases ts.any fun x => (s.tank x).expires date <;>
      simp [BitVec.or_assoc]

theorem rejectAll_notices (s : State) (date : Nat) : (s.rejectAll date).notices =
    (s.raiseIf ((List.finRange 24).any fun t => (s.tank t).expires date) .tankRejected).notices :=
  rejections_notices date _ (List.nodup_finRange 24) s

/-! ## Slots treated -/

/-- R84: what a date makes of a slot that holds a record. -/
theorem treated_held (st : HeldState) (r : TankRecord) (date : Nat) :
    ((TankSlot.held st r).flagged date).lapsed date =
      if date ≠ 0 ∧ r.expiry ≠ 0 ∧ r.expiry < date then
        (if st = .feeding then .held .feeding { r with expired := true }
         else if st = .standby ∧ r.releasePending = false then .held .rejectedExpired r
         else .held st r)
      else .held st r := by
  by_cases hp : date ≠ 0 ∧ r.expiry ≠ 0 ∧ r.expiry < date
  · have hpast := (pastExpiry_iff _ _).mpr hp
    rw [if_pos hp]
    cases st <;> simp [TankSlot.flagged, TankSlot.lapsed, TankSlot.expires, hpast]
  · have hpast : pastExpiry date r.expiry = false := Bool.eq_false_iff.mpr (mt (pastExpiry_iff _ _).mp hp)
    rw [if_neg hp]
    cases st <;> simp [TankSlot.flagged, TankSlot.lapsed, TankSlot.expires, hpast]

/-- R84: a slot that can take a switchover once a date has treated it could before, and is not past its expiry. -/
theorem treated_candidate {v : TankSlot} {date : Nat} (h : ((v.flagged date).lapsed date).isCandidate = true) :
    ∃ r, v = .held .standby r ∧ r.releasePending = false ∧ ¬ (date ≠ 0 ∧ r.expiry ≠ 0 ∧ r.expiry < date) := by
  rcases v with _ | _ | _ | ⟨st, r⟩
  case held =>
    rw [treated_held] at h
    split at h
    · split at h
      · cases h
      · split at h
        · cases h
        · rename_i hstays
          obtain ⟨r', he, hr⟩ := (isCandidate_iff _).mp h
          cases he
          exact absurd ⟨rfl, hr⟩ hstays
    · rename_i hpast
      obtain ⟨r', he, hr⟩ := (isCandidate_iff _).mp h
      cases he
      exact ⟨r, rfl, hr, hpast⟩
  all_goals simp [TankSlot.flagged, TankSlot.lapsed, TankSlot.isCandidate] at h

theorem flagged_expires (v : TankSlot) (date : Nat) : (v.flagged date).expires date = v.expires date := by
  unfold TankSlot.flagged
  split
  · split <;> rfl
  · rfl

/-- R84: a slot that a date rejects. -/
theorem expires_iff (v : TankSlot) (date : Nat) : v.expires date = true ↔
    ∃ r, v = .held .standby r ∧ r.releasePending = false ∧ date ≠ 0 ∧ r.expiry ≠ 0 ∧ r.expiry < date := by
  unfold TankSlot.expires
  split
  · rename_i r
    rw [Bool.and_eq_true, pastExpiry_iff, Bool.not_eq_true']
    constructor
    · rintro ⟨hp, hr⟩
      exact ⟨r, rfl, hr, hp⟩
    · rintro ⟨_, he, hr, hp⟩
      cases he
      exact ⟨hp, hr⟩
  · rename_i hn
    exact ⟨nofun, fun ⟨r, hr, _⟩ => absurd hr (hn r)⟩

/-! ## Every slot treated -/

/-- R84: the flags and the rejections of a date. -/
def State.treated (s : State) (date : Nat) : State := (s.flagAll date).rejectAll date

theorem treated_tank (s : State) (date : Nat) (x : TankId) :
    (s.treated date).tank x = ((s.tank x).flagged date).lapsed date := by
  rw [State.treated, rejectAll_tank, flagAll_tank]

theorem treated_supply (s : State) (date : Nat) : (s.treated date).supply.channels = s.supply.channels ∧
    (s.treated date).supply.presence = s.supply.presence := by
  rw [State.treated, rejectAll_channels, rejectAll_presence]
  exact ⟨flagAll_channels s date, flagAll_presence s date⟩

theorem treated_tags (s : State) (date : Nat) : (s.treated date).tags = s.tags := by
  rw [State.treated, rejectAll_tags]
  exact (flagAll_same s date).1

theorem treated_notices (s : State) (date : Nat) : (s.treated date).notices =
    (s.raiseIf ((List.finRange 24).any fun t => (s.tank t).expires date) .tankRejected).notices := by
  rw [State.treated, rejectAll_notices, raiseIf_notices, raiseIf_notices, (flagAll_same s date).2]
  simp only [flagAll_tank, flagged_expires]

/-- R84: a date that rejects a slot raises TANK_REJECTED. -/
theorem treated_notices_raised {s : State} {date : Nat} (h : ∃ x r, s.tank x = .held .standby r ∧
    r.releasePending = false ∧ date ≠ 0 ∧ r.expiry ≠ 0 ∧ r.expiry < date) :
    (s.treated date).notices = (s.raise .tankRejected).notices := by
  obtain ⟨x, hx⟩ := h
  have hany : ((List.finRange 24).any fun t => (s.tank t).expires date) = true :=
    List.any_eq_true.mpr ⟨x, List.mem_finRange x, (expires_iff _ _).mpr hx⟩
  rw [treated_notices, hany]
  rfl

/-- R84: without a date nothing is past its expiry. -/
theorem treated_zero (s : State) : s.treated 0 = s := by
  have hflag : s.flagAll 0 = s := by
    unfold State.flagAll
    refine foldl_keeps id _ (fun s t => ?_) _ _
    unfold State.flagExpired
    split <;> rfl
  have hreject : s.rejectAll 0 = s := by
    unfold State.rejectAll
    refine foldl_keeps id _ (fun s t => ?_) _ _
    unfold State.rejectExpired
    split
    · rename_i r hr
      rw [hr]
      rfl
    · rfl
  rw [State.treated, hflag, hreject]

/-! ## The switchovers to a rejected slot -/

/-- R73, R84: the channels whose target a date rejected are put right, one after the other. -/
def State.abandonAll (s before : State) (date : Nat) (cs : List ChannelId) : State :=
  cs.foldl (fun u c => u.targetExpired before date c) s

theorem expire_treated (s : State) (date : Nat) :
    s.expire date = (s.treated date).abandonAll (s.flagAll date) date (List.finRange 12) := by
  rw [expire_eq]
  rfl

section
variable (before : State) (date : Nat)

theorem abandonAll_cons (s : State) (c : ChannelId) (cs : List ChannelId) :
    s.abandonAll before date (c :: cs) = (s.targetExpired before date c).abandonAll before date cs := rfl

theorem abandonAll_append (s : State) (bs cs : List ChannelId) :
    s.abandonAll before date (bs ++ cs) = (s.abandonAll before date bs).abandonAll before date cs :=
  List.foldl_append

/-- R84: with no channel SWITCHING there is nothing to abandon. -/
theorem abandonAll_still {s : State} (h : ∀ c y n, (s.channel c).feed ≠ .switching y n) (cs : List ChannelId) :
    s.abandonAll before date cs = s := by
  induction cs with
  | nil => rfl
  | cons c cs ih =>
    have hc : s.targetExpired before date c = s := by
      unfold State.targetExpired
      split
      · exact absurd ‹_› (h c _ _)
      · rfl
    rw [abandonAll_cons, hc, ih]

/-- R84: what is abandoned is abandoned of the channels in the list. -/
theorem abandonAll_bottles {c : ChannelId} (cs : List ChannelId) (hc : c ∉ cs) (s : State) :
    (s.abandonAll before date cs).bottles c = s.bottles c := by
  induction cs generalizing s with
  | nil => rfl
  | cons b cs ih =>
    obtain ⟨hne, hcs⟩ := not_or.mp (mt List.mem_cons.mpr hc)
    rw [abandonAll_cons, ih hcs, targetExpired_bottles _ _ _ hne]

/-- R73: a notice that is pending stays so. -/
theorem targetExpired_mono (s : State) (c : ChannelId) {i : Nat} (h : s.notices.pending.getLsbD i = true) :
    (s.targetExpired before date c).notices.pending.getLsbD i = true := by
  unfold State.targetExpired
  split
  · split
    · rw [abandonSwitch_eq ‹_›, switchTest_notices, starveFrom_getLsbD, h]
      rfl
    · exact h
  · exact h

theorem abandonAll_mono (cs : List ChannelId) (s : State) {i : Nat} (h : s.notices.pending.getLsbD i = true) :
    (s.abandonAll before date cs).notices.pending.getLsbD i = true :=
  List.foldlRecOn (motive := fun u : State => u.notices.pending.getLsbD i = true) _ _ h fun u hu c _ =>
    targetExpired_mono before date u c hu

/-- R73, R84: among all channels each is put right by itself, and CHANNEL_STARVED stays raised. -/
theorem abandonAll_at (s : State) (c : ChannelId) : ∃ u : State, u.bottles c = s.bottles c ∧
    (s.abandonAll before date (List.finRange 12)).bottles c = (u.targetExpired before date c).bottles c ∧
    ∀ i, (u.targetExpired before date c).notices.pending.getLsbD i = true →
      (s.abandonAll before date (List.finRange 12)).notices.pending.getLsbD i = true := by
  obtain ⟨bs, cs, hsplit⟩ := List.append_of_mem (List.mem_finRange c)
  have hnodup := List.nodup_finRange 12
  rw [hsplit] at hnodup ⊢
  have hbs : c ∉ bs := fun h => List.disjoint_of_nodup_append hnodup h (List.mem_cons_self ..)
  have hcs : c ∉ cs := (List.nodup_cons.mp (List.Nodup.of_append_right hnodup)).1
  rw [abandonAll_append, abandonAll_cons]
  exact ⟨s.abandonAll before date bs, abandonAll_bottles before date bs hbs s, abandonAll_bottles before date cs hcs _,
    fun i => abandonAll_mono before date cs _⟩

end

/-! ## DATE_SET -/

theorem handle_dateSet (day : Nat) (s : State) :
    handle (.dateSet day) s = (((s.withDate day).expire day).settle s, ⟨.ok, .dates s.date day⟩) := rfl

/-- R84: where no channel is SWITCHING a date treats the slots alone. -/
theorem expire_still {s : State} (h : ∀ c y n, (s.channel c).feed ≠ .switching y n) (date : Nat) :
    s.expire date = s.treated date := by
  rw [expire_treated]
  refine abandonAll_still _ _ (fun c y n => ?_) _
  rw [channel_congr (treated_supply s date).1]
  exact h c y n

/-- R73, R84: a switchover to a slot that the date rejects, with no other slot to turn to. -/
theorem expire_target {s : State} {date : Nat} {c : ChannelId} {y : Side} {n : Nat} {r : TankRecord}
    (hf : (s.channel c).feed = .switching y n) (hx : s.tank (tankOf c y) = .held .standby r)
    (hlate : r.releasePending = false ∧ date ≠ 0 ∧ r.expiry ≠ 0 ∧ r.expiry < date)
    (ho : ∀ r', s.tank (tankOf c y.other) = .held .standby r' →
      r'.releasePending = true ∨ (r'.expiry ≠ 0 ∧ r'.expiry < date)) :
    (s.expire date).tank (tankOf c y) = .held .rejectedExpired r ∧
      (s.expire date).channel c = { s.channel c with feed := .starved } ∧
      (s.expire date).notices.pending.getLsbD 6 = true ∧ (s.expire date).notices.pending.getLsbD 7 = true ∧
      (∀ r', s.tank (tankOf c y.other) = .held .feeding r' →
        ∃ m, (s.expire date).tank (tankOf c y.other) = .held r'.awayState
          { r' with writeMark := m, expired := r'.expired || (decide (r'.expiry ≠ 0) && decide (r'.expiry < date)) }) := by
  obtain ⟨hrel, hpast⟩ := hlate
  obtain ⟨u, hu, hfinal, hbits⟩ := abandonAll_at (s.flagAll date) date (s.treated date) c
  have htank : ∀ z, u.tank (tankOf c z) = ((s.tank (tankOf c z)).flagged date).lapsed date := fun z => by
    rw [bottles_tank hu, treated_tank]
  have huc : u.channel c = s.channel c := by rw [bottles_channel hu, channel_congr (treated_supply _ _).1]
  have huy : u.tank (tankOf c y) = .held .rejectedExpired r := by
    rw [htank, hx, treated_held, if_pos hpast]
    simp [hrel]
  have hother : (u.tank (tankOf c y.other)).isCandidate = false := by
    rw [Bool.eq_false_iff, htank]
    intro hc
    obtain ⟨r', hr', hrel', hnot⟩ := treated_candidate hc
    rcases ho r' hr' with h | h
    · simp [hrel'] at h
    · exact hnot ⟨hpast.1, h⟩
  have hexpires : ((s.flagAll date).tank (tankOf c y)).expires date = true := by
    rw [flagAll_tank, flagged_expires]
    exact (expires_iff _ _).mpr ⟨r, hx, hrel, hpast⟩
  have htarget : u.targetExpired (s.flagAll date) date c = u.starveFrom c y := by
    have hfeed : (u.channel c).feed = .switching y n := by rw [huc, hf]
    rw [← abandonSwitch_none hfeed (by rw [huy]; rfl) hother, State.targetExpired, hfeed]
    exact if_pos hexpires
  rw [htarget] at hfinal hbits
  rw [← expire_treated] at hfinal hbits
  refine ⟨?_, ?_, hbits 6 ?_, ?_, fun r' hr' => ?_⟩
  · rw [bottles_tank hfinal, starveFrom_tank_ne _ (tankOf_other_ne c y).symm, huy]
  · rw [bottles_channel hfinal, starveFrom_channel_self, huc]
  · rw [starveFrom_getLsbD]
    simp
  · rw [expire_treated]
    refine abandonAll_mono _ _ _ _ ?_
    rw [treated_notices_raised ⟨_, r, hx, hrel, hpast⟩]
    exact raise_bit _ .tankRejected
  · have hfeeding : u.tank (tankOf c y.other) = .held .feeding
        { r' with expired := r'.expired || (decide (r'.expiry ≠ 0) && decide (r'.expiry < date)) } := by
      rw [htank, hr', treated_held]
      split
      · rename_i hp
        simp [hp.2]
      · rename_i hp
        have hfresh : (decide (r'.expiry ≠ 0) && decide (r'.expiry < date)) = false := by
          simpa [hpast.1] using hp
        rw [hfresh, Bool.or_false]
    obtain ⟨m, hm⟩ := starveFrom_tank_other hfeeding
    exact ⟨m, by rw [bottles_tank hfinal, hm]; rfl⟩

/-- Settles O36: every slot is treated first, and the switchovers to a rejected one are then abandoned. -/
theorem dateSetTreatsExpiredTanks : Obligations.DateSetTreatsExpiredTanks := by
  refine ⟨fun tag day s ht h => ?_, fun tag day c y n r s ht hf hx hrel hd he hlt ho => ?_⟩
  · obtain ⟨t, hex, hans⟩ := exec_answers (c := .dateSet tag day) rfl ht (handle_dateSet day s.asked)
    have hstill := expire_still (s := s.asked.withDate day) (by simpa using h) day
    obtain ⟨hchannels, hpresence⟩ := treated_supply (s.asked.withDate day) day
    refine ⟨t, _, hex, by simpa using hans, ?_, by simp, by simp, ?_, ?_, fun h0 => ?_, fun x st r hx => ?_, fun hlate => ?_⟩
    · have htags : ((s.asked.withDate day).expire day).tags = s.tags := by
        rw [hstill, treated_tags]
        simp
      simp [sameBut_iff, htags]
    · rw [hstill, hchannels]; simp
    · rw [hstill, hpresence]; simp
    · subst h0
      rw [hstill, treated_zero]
      simp
    · rw [hstill, treated_tank, withDate_tank, asked_tank, hx, treated_held]
    · rw [hstill, treated_notices_raised (by simpa using hlate)]
      simp [State.raise, Notice.bit, Notice.number]
  · obtain ⟨t, hex, hans⟩ := exec_answers (c := .dateSet tag day) rfl ht (handle_dateSet day s.asked)
    obtain ⟨htank, hchannel, h6, h7, hother⟩ := expire_target (s := s.asked.withDate day) (date := day) (c := c) (y := y)
      (n := n) (r := r) (by simpa using hf) (by simpa using hx) ⟨hrel, hd, he, hlt⟩ (by simpa using ho)
    refine ⟨t, _, hex, by simpa using hans, ?_, by simp, by simp, htank, by simpa using hchannel, h6, h7, fun r' hr' => ?_⟩
    · simp [sameBut_iff]
    · obtain ⟨m, hm⟩ := hother r' (by simpa using hr')
      exact ⟨_, hm, rfl⟩

end Sys2Proof.Machine
end
